-- ==== Sys2Proof/Word.lean ====
section
/-! DEFINITION. The two word sizes the block decodes bits from: a byte and a 16-bit field. -/

namespace Sys2Proof

/-- One byte of a frame, of the RX space, or an 8-bit control register. -/
abbrev Byte := BitVec 8

/-- A 16-bit field: the command word, c9, c10, a CRC (spec/30_encoding.md R91, R99). -/
abbrev Half := BitVec 16

end Sys2Proof
end

