-- ==== Sys2Proof/Syntax.lean ====
section
/-! DEFINITION. The 24 operations of the opcode map (spec/30_encoding.md R110), one constructor per row,
and the operands an inbound frame carries (R100). -/

namespace Sys2Proof

/-- The eight riding modes, the values of `mode_of` (spec/30_encoding.md R92). -/
inductive Mode
  | off | power | cadence | torque | emtb | walk | cruise | calib
deriving DecidableEq, Repr

/-- The overlays, the values of `ovl_of` (spec/30_encoding.md R94). -/
inductive Overlay
  | none | throttle | temp
deriving DecidableEq, Repr

/-- The five message kinds of an inbound frame (spec/30_encoding.md R102). -/
inductive MsgId
  | limits | wheelAssist | optFn | hallAngles | hallOffsets
deriving DecidableEq, Repr

/-- The six payload bytes of an inbound frame, in wire order: bytes 5 to 10 (spec/30_encoding.md R100). -/
structure Payload where
  b0 : Byte
  b1 : Byte
  b2 : Byte
  b3 : Byte
  b4 : Byte
  b5 : Byte
deriving DecidableEq, Repr, Inhabited

/-- The fields of an inbound frame besides its start byte and message-ID (spec/30_encoding.md R100):
`lights` is byte 4, lights_state in bit 7 and lights_cfg in bits 6:0. -/
structure FrameArgs where
  mode : Byte
  param : Byte
  lights : Byte
  payload : Payload
  crcLo : Byte
  crcHi : Byte
deriving DecidableEq, Repr, Inhabited

/-- The operations: eight of format STAGE (R93), eight of format CMD with the parameter byte (R91, R92),
three of format OVL (R94), five of format RXF (R102). -/
inductive Instr
  | idle
  | sense
  | health
  | law
  | overlay
  | speedlim
  | arbiter
  | comm
  | off (p : Byte)
  | power (p : Byte)
  | cadence (p : Byte)
  | torque (p : Byte)
  | emtb (p : Byte)
  | walk (p : Byte)
  | cruise (p : Byte)
  | calib (p : Byte)
  | ovlNone
  | ovlThrottle
  | ovlTemp
  | frameLimits (f : FrameArgs)
  | frameWheelAssist (f : FrameArgs)
  | frameOptfn (f : FrameArgs)
  | frameHallAngles (f : FrameArgs)
  | frameHallOffsets (f : FrameArgs)
deriving DecidableEq, Repr

end Sys2Proof
end

