-- ==== Sys2Proof/Config.lean ====
section
/-! DEFINITION. The configuration record `P` (spec/00_scope.md R8 to R11). Group A are the constants the
document states. Groups B, C and D are OPEN: one opaque record, moved into its legal ranges, so that nothing
can be proved of a parameter but what its range says (notes/assumptions/7.md). The free values of the outbound
record (spec/30_encoding.md R104) stand here too (notes/assumptions/5.md, 6.md). -/

namespace Sys2Proof.Config

/-! Group A (spec/00_scope.md R8). `TICK_MS` = 25, `N_MODES` = 8, `N_LAWS` = 7, `N_MSG` = 5 and
`LIGHTS_CFG_MAX` = 8 enter no rule; `CRC_SEED` is inside `crc16`. -/

/-- Divisor of the power-assist formula. -/
abbrev POWER_DIV : Nat := 480
/-- Divisor of the torque-assist formula. -/
abbrev TORQUE_DIV : Nat := 110
/-- Base of the assist-without-pedal-rotation threshold. -/
abbrev AWPR_BASE : Nat := 110
/-- Lookup tables. -/
abbrev EMTB_LEVELS : Nat := 20
/-- Entries per table. -/
abbrev EMTB_ENTRIES : Nat := 241
/-- Added to the torque delta to form the index. -/
abbrev EMTB_OFFSET : Nat := 10
/-- Largest index and upper bound of every entry. -/
abbrev EMTB_SAT : Nat := 240
/-- Ceiling of the walk-assist duty target. -/
abbrev WALK_DUTY_CEIL : Nat := 80
/-- Upper integral clamp (the lower is 0). -/
abbrev PID_INT_MAX : Nat := 1000
/-- Upper output clamp (the lower is 0). -/
abbrev PID_OUT_MAX : Nat := 1000
/-- Integral after (re)entry. -/
abbrev PID_INT_SEED : Nat := 320
/-- Right shift of the output before mapping. -/
abbrev PID_OUT_SHIFT : Nat := 2
/-- Upper end of the mapping's input range. -/
abbrev PID_MAP_IN_MAX : Nat := 250
/-- Half-width of the speed limiter's band. -/
abbrev SPEED_BAND_X10 : Nat := 20
/-- Lower ramp-shaping wheel speed. -/
abbrev RAMP_SPEED_LO_X10 : Nat := 40
/-- Upper ramp-shaping wheel speed. -/
abbrev RAMP_SPEED_HI_X10 : Nat := 200
/-- Lower ramp-shaping cadence. -/
abbrev RAMP_CAD_LO : Nat := 20
/-- Upper ramp-shaping cadence. -/
abbrev RAMP_CAD_HI : Nat := 70
/-- Disabled to Enabled needs motor speed below this. -/
abbrev ENABLE_ERPS_MAX : Nat := 50
/-- Motor-blocked current threshold. -/
abbrev MB_CURRENT_X10 : Nat := 50
/-- Motor-blocked speed threshold. -/
abbrev MB_ERPS : Nat := 10
/-- Consecutive ticks to latch. -/
abbrev MB_LATCH_TICKS : Nat := 10
/-- Ticks from latch to auto-clear. -/
abbrev MB_CLEAR_TICKS : Nat := 100
/-- Least plausible torque offset. -/
abbrev TS_OFFSET_MIN : Nat := 10
/-- Largest plausible torque offset. -/
abbrev TS_OFFSET_MAX : Nat := 300
/-- Largest plausible torque reading. -/
abbrev TS_TORQUE_MAX : Nat := 500
/-- Temperature filter shift. -/
abbrev TEMP_K : Nat := 3
/-- Bytes of an inbound frame. -/
abbrev RX_LEN : Nat := 13
/-- Bytes of an outbound frame. -/
abbrev TX_LEN : Nat := 29
/-- `RX_START`, the start byte of an inbound frame. -/
abbrev RX_START : Byte := 0x59
/-- `TX_START`, the start byte of an outbound frame. -/
abbrev TX_START : Byte := 0x43
/-- `COMM_DIV` = 4: the exchange runs when the 2-bit tick counter has this value (spec/47_sequencer_host.md R340). -/
abbrev EXCHANGE_PHASE : BitVec 2 := 3

end Sys2Proof.Config

namespace Sys2Proof

/-- One (configuration register, value) pair of `decodePayload` (spec/00_scope.md R11). Each register's
value has that register's width (notes/assumptions/11.md). -/
inductive CfgWrite
  | iMaxAdc (v : Byte)
  | pMaxW (v : Half)
  | wheelPerimeterMm (v : Half)
  | maxSpeedKmh (v : Byte)
  | torquePerStepX100 (v : Byte)
  | awprThreshold (v : Byte)
  | optFunction (v : Byte)
  | tempMin (v : Byte)
  | tempMax (v : Byte)
deriving DecidableEq, Repr

/-- The configuration record. Its numeric fields are the OPEN parameters of spec/00_scope.md R9 and R10 under
their own names; `emtbLut`, `crc16` and `decodePayload` are the tables and functions of R11. -/
structure Params where
  /-- `VBAT_K` -/
  vbatK : Nat
  /-- `VBAT_MV_PER_STEP` -/
  vbatMvPerStep : Nat
  /-- `IBAT_STEP_X100` -/
  ibatStepX100 : Nat
  /-- `CADENCE_NUM` -/
  cadenceNum : Nat
  /-- `WHEEL_NUM` -/
  wheelNum : Nat
  /-- `CTM_SPEED_LO_X10` -/
  ctmSpeedLoX10 : Nat
  /-- `CTM_SPEED_HI_X10` -/
  ctmSpeedHiX10 : Nat
  /-- `CTM_TICKS_LO` -/
  ctmTicksLo : Nat
  /-- `CTM_TICKS_HI` -/
  ctmTicksHi : Nat
  /-- `CAL_START_TICKS` -/
  calStartTicks : Nat
  /-- `CAL_END_TICKS` -/
  calEndTicks : Nat
  /-- `TOFF_INIT` -/
  toffInit : Nat
  /-- `TOFF_K` -/
  toffK : Nat
  /-- `CAL_CORRECTION (signed)` -/
  calCorrection : Int
  /-- `COASTER_CONST` -/
  coasterConst : Nat
  /-- `TEMP_NUM` -/
  tempNum : Nat
  /-- `TEMP_DEN` -/
  tempDen : Nat
  /-- `THR_ADC_MIN` -/
  thrAdcMin : Nat
  /-- `THR_ADC_MAX` -/
  thrAdcMax : Nat
  /-- `DUTY_MAX` -/
  dutyMax : Nat
  /-- `DUTY_STARTUP` -/
  dutyStartup : Nat
  /-- `ADC_I_ABS_MAX` -/
  adcIAbsMax : Nat
  /-- `RAMP_UP_MIN` -/
  rampUpMin : Nat
  /-- `RAMP_UP_DEFAULT` -/
  rampUpDefault : Nat
  /-- `RAMP_DOWN_MIN` -/
  rampDownMin : Nat
  /-- `RAMP_DOWN_DEFAULT` -/
  rampDownDefault : Nat
  /-- `AWPR_RPM_POWER` -/
  awprRpmPower : Nat
  /-- `AWPR_RPM_TORQUE` -/
  awprRpmTorque : Nat
  /-- `AWPR_RPM_EMTB` -/
  awprRpmEmtb : Nat
  /-- `CAD_POWER_PER_UNIT_X100` -/
  cadPowerPerUnitX100 : Nat
  /-- `CAD_POWER_MAX_X100` -/
  cadPowerMaxX100 : Nat
  /-- `WALK_SPEED_MAX_X10` -/
  walkSpeedMaxX10 : Nat
  /-- `WALK_RAMP_UP` -/
  walkRampUp : Nat
  /-- `WALK_I_CAP` -/
  walkICap : Nat
  /-- `CRUISE_SPEED_MIN_X10` -/
  cruiseSpeedMinX10 : Nat
  /-- `CRUISE_RAMP_UP` -/
  cruiseRampUp : Nat
  /-- `KP` -/
  kp : Nat
  /-- `KD` -/
  kd : Nat
  /-- `KI_NUM` -/
  kiNum : Nat
  /-- `KI_DEN` -/
  kiDen : Nat
  /-- `CAL_RAMP_UP` -/
  calRampUp : Nat
  /-- `CAL_RAMP_DOWN` -/
  calRampDown : Nat
  /-- `THR_SPEED_LO_X10` -/
  thrSpeedLoX10 : Nat
  /-- `THR_SPEED_HI_X10` -/
  thrSpeedHiX10 : Nat
  /-- `THR_RAMP_UP_MIN` -/
  thrRampUpMin : Nat
  /-- `THR_RAMP_UP_DEFAULT` -/
  thrRampUpDefault : Nat
  /-- `THR_RAMP_DOWN_MIN` -/
  thrRampDownMin : Nat
  /-- `THR_RAMP_DOWN_DEFAULT` -/
  thrRampDownDefault : Nat
  /-- `COMM_LOSS_TICKS` -/
  commLossTicks : Nat
  /-- `EMTB_LUT(level, idx)`, meant for levels 1 to 20 and indices 0 to 240 only. -/
  emtbLut : Nat → Nat → Nat
  /-- `crc16`: a function of its argument only (the seed 0xFFFF is inside it). -/
  crc16 : List Byte → Half
  /-- `decodePayload`: the pairs a payload carries under a message-ID. -/
  decodePayload : MsgId → Payload → List CfgWrite
deriving Inhabited

/-- The legal ranges of spec/00_scope.md R9 and R10 and the laws of R11. Where R10 gives no upper end to
a value that is written to a u16 register (CAL_RAMP_UP, CAL_RAMP_DOWN, the four THR_RAMP parameters), the register's
width is the upper end (notes/assumptions/7.md). -/
structure Params.Legal (p : Params) : Prop where
  vbatK : p.vbatK ≤ 6
  vbatMvPerStep : 1 ≤ p.vbatMvPerStep ∧ p.vbatMvPerStep ≤ 255
  ibatStepX100 : 1 ≤ p.ibatStepX100 ∧ p.ibatStepX100 ≤ 255
  cadenceNum : 1 ≤ p.cadenceNum ∧ p.cadenceNum ≤ 65535
  wheelNum : 1 ≤ p.wheelNum ∧ p.wheelNum ≤ 65535
  ctmSpeedLoX10 : p.ctmSpeedLoX10 ≤ 65534
  ctmSpeedHiX10 : p.ctmSpeedLoX10 + 1 ≤ p.ctmSpeedHiX10 ∧ p.ctmSpeedHiX10 ≤ 65535
  ctmTicksLo : p.ctmTicksLo ≤ 65535
  ctmTicksHi : p.ctmTicksHi ≤ 65535
  calStartTicks : p.calStartTicks ≤ 65534
  calEndTicks : p.calStartTicks ≤ p.calEndTicks ∧ p.calEndTicks ≤ 65534
  toffInit : p.toffInit ≤ 1023
  toffK : p.toffK ≤ 6
  calCorrection : -1023 ≤ p.calCorrection ∧ p.calCorrection ≤ 1023
  coasterConst : p.coasterConst ≤ 1023
  tempNum : 1 ≤ p.tempNum ∧ p.tempNum ≤ 255
  tempDen : 1 ≤ p.tempDen ∧ p.tempDen ≤ 255
  thrAdcMin : p.thrAdcMin ≤ 1022
  thrAdcMax : p.thrAdcMin + 1 ≤ p.thrAdcMax ∧ p.thrAdcMax ≤ 1023
  dutyMax : 2 ≤ p.dutyMax ∧ p.dutyMax ≤ 255
  dutyStartup : p.dutyStartup ≤ p.dutyMax
  adcIAbsMax : p.adcIAbsMax ≤ 255
  rampUpMin : 1 ≤ p.rampUpMin ∧ p.rampUpMin ≤ 65535
  rampUpDefault : p.rampUpMin ≤ p.rampUpDefault ∧ p.rampUpDefault ≤ 65535
  rampDownMin : 1 ≤ p.rampDownMin ∧ p.rampDownMin ≤ 65535
  rampDownDefault : p.rampDownMin ≤ p.rampDownDefault ∧ p.rampDownDefault ≤ 65535
  awprRpmPower : 1 ≤ p.awprRpmPower ∧ p.awprRpmPower ≤ 4
  awprRpmTorque : 1 ≤ p.awprRpmTorque ∧ p.awprRpmTorque ≤ 4
  awprRpmEmtb : 1 ≤ p.awprRpmEmtb ∧ p.awprRpmEmtb ≤ 4
  cadPowerPerUnitX100 : p.cadPowerPerUnitX100 ≤ 65535
  cadPowerMaxX100 : p.cadPowerMaxX100 ≤ 16777215
  walkSpeedMaxX10 : p.walkSpeedMaxX10 ≤ 65535
  walkRampUp : p.rampUpMin ≤ p.walkRampUp ∧ p.walkRampUp ≤ 65535
  walkICap : p.walkICap ≤ 255
  cruiseSpeedMinX10 : p.cruiseSpeedMinX10 ≤ 65535
  cruiseRampUp : p.rampUpMin ≤ p.cruiseRampUp ∧ p.cruiseRampUp ≤ 65535
  kp : p.kp ≤ 255
  kd : p.kd ≤ 255
  kiNum : p.kiNum ≤ 255
  kiDen : 1 ≤ p.kiDen ∧ p.kiDen ≤ 255
  calRampUp : p.rampUpMin ≤ p.calRampUp ∧ p.calRampUp ≤ 65535
  calRampDown : p.rampDownMin ≤ p.calRampDown ∧ p.calRampDown ≤ 65535
  /-- The one law of these two: R10 gives neither a largest value, and no register holds them. -/
  thrSpeedHiX10 : p.thrSpeedLoX10 < p.thrSpeedHiX10
  thrRampUpMin : p.rampUpMin ≤ p.thrRampUpMin ∧ p.thrRampUpMin ≤ 65535
  thrRampUpDefault : p.thrRampUpMin ≤ p.thrRampUpDefault ∧ p.thrRampUpDefault ≤ 65535
  thrRampDownMin : p.rampDownMin ≤ p.thrRampDownMin ∧ p.thrRampDownMin ≤ 65535
  thrRampDownDefault : p.thrRampDownMin ≤ p.thrRampDownDefault ∧ p.thrRampDownDefault ≤ 65535
  commLossTicks : 1 ≤ p.commLossTicks ∧ p.commLossTicks ≤ 65535
  /-- Every entry is at most 240. -/
  lutBound : ∀ level idx, 1 ≤ level → level ≤ 20 → idx ≤ 240 → p.emtbLut level idx ≤ 240
  /-- Every level is non-decreasing in the index. -/
  lutMono : ∀ level i j, 1 ≤ level → level ≤ 20 → i ≤ j → j ≤ 240 → p.emtbLut level i ≤ p.emtbLut level j
  /-- `EMTB_LUT(1,0) = 0`. -/
  lutFirst : p.emtbLut 1 0 = 0
  /-- `EMTB_LUT(1,240) = 64`. -/
  lutLast : p.emtbLut 1 240 = 64

/-- `v` moved into `[lo, hi]`. -/
def intoRange (lo hi v : Nat) : Nat := min (max v lo) hi

/-- The running maximum of a row cut at 240: the least non-decreasing row above it. -/
def risingRow (row : Nat → Nat) : Nat → Nat
  | 0 => min (row 0) 240
  | n + 1 => max (risingRow row n) (min (row (n + 1)) 240)

/-- A table made to obey the four laws of spec/00_scope.md R11; a table that obeys them is unchanged. -/
def lawfulLut (t : Nat → Nat → Nat) (level idx : Nat) : Nat :=
  if level = 1 then
    if idx = 0 then 0 else if 240 ≤ idx then 64 else min (risingRow (t 1) idx) 64
  else risingRow (t level) idx

/-- A record moved into the legal ranges. A legal record is unchanged (Laws/Config.lean), so `legalise` of an
arbitrary record is an arbitrary LEGAL record. -/
def Params.legalise (p : Params) : Params :=
  let vbatK := intoRange 0 6 p.vbatK
  let vbatMvPerStep := intoRange 1 255 p.vbatMvPerStep
  let ibatStepX100 := intoRange 1 255 p.ibatStepX100
  let cadenceNum := intoRange 1 65535 p.cadenceNum
  let wheelNum := intoRange 1 65535 p.wheelNum
  let ctmSpeedLoX10 := intoRange 0 65534 p.ctmSpeedLoX10
  let ctmSpeedHiX10 := intoRange (ctmSpeedLoX10 + 1) 65535 p.ctmSpeedHiX10
  let ctmTicksLo := intoRange 0 65535 p.ctmTicksLo
  let ctmTicksHi := intoRange 0 65535 p.ctmTicksHi
  let calStartTicks := intoRange 0 65534 p.calStartTicks
  let calEndTicks := intoRange calStartTicks 65534 p.calEndTicks
  let toffInit := intoRange 0 1023 p.toffInit
  let toffK := intoRange 0 6 p.toffK
  let calCorrection := min (max p.calCorrection (-1023)) 1023
  let coasterConst := intoRange 0 1023 p.coasterConst
  let tempNum := intoRange 1 255 p.tempNum
  let tempDen := intoRange 1 255 p.tempDen
  let thrAdcMin := intoRange 0 1022 p.thrAdcMin
  let thrAdcMax := intoRange (thrAdcMin + 1) 1023 p.thrAdcMax
  let dutyMax := intoRange 2 255 p.dutyMax
  let dutyStartup := intoRange 0 dutyMax p.dutyStartup
  let adcIAbsMax := intoRange 0 255 p.adcIAbsMax
  let rampUpMin := intoRange 1 65535 p.rampUpMin
  let rampUpDefault := intoRange rampUpMin 65535 p.rampUpDefault
  let rampDownMin := intoRange 1 65535 p.rampDownMin
  let rampDownDefault := intoRange rampDownMin 65535 p.rampDownDefault
  let awprRpmPower := intoRange 1 4 p.awprRpmPower
  let awprRpmTorque := intoRange 1 4 p.awprRpmTorque
  let awprRpmEmtb := intoRange 1 4 p.awprRpmEmtb
  let cadPowerPerUnitX100 := intoRange 0 65535 p.cadPowerPerUnitX100
  let cadPowerMaxX100 := intoRange 0 16777215 p.cadPowerMaxX100
  let walkSpeedMaxX10 := intoRange 0 65535 p.walkSpeedMaxX10
  let walkRampUp := intoRange rampUpMin 65535 p.walkRampUp
  let walkICap := intoRange 0 255 p.walkICap
  let cruiseSpeedMinX10 := intoRange 0 65535 p.cruiseSpeedMinX10
  let cruiseRampUp := intoRange rampUpMin 65535 p.cruiseRampUp
  let kp := intoRange 0 255 p.kp
  let kd := intoRange 0 255 p.kd
  let kiNum := intoRange 0 255 p.kiNum
  let kiDen := intoRange 1 255 p.kiDen
  let calRampUp := intoRange rampUpMin 65535 p.calRampUp
  let calRampDown := intoRange rampDownMin 65535 p.calRampDown
  let thrSpeedLoX10 := p.thrSpeedLoX10
  let thrSpeedHiX10 := max (thrSpeedLoX10 + 1) p.thrSpeedHiX10
  let thrRampUpMin := intoRange rampUpMin 65535 p.thrRampUpMin
  let thrRampUpDefault := intoRange thrRampUpMin 65535 p.thrRampUpDefault
  let thrRampDownMin := intoRange rampDownMin 65535 p.thrRampDownMin
  let thrRampDownDefault := intoRange thrRampDownMin 65535 p.thrRampDownDefault
  let commLossTicks := intoRange 1 65535 p.commLossTicks
  { vbatK, vbatMvPerStep, ibatStepX100, cadenceNum, wheelNum, ctmSpeedLoX10, ctmSpeedHiX10,
    ctmTicksLo, ctmTicksHi, calStartTicks, calEndTicks, toffInit, toffK, calCorrection,
    coasterConst, tempNum, tempDen, thrAdcMin, thrAdcMax, dutyMax, dutyStartup, adcIAbsMax,
    rampUpMin, rampUpDefault, rampDownMin, rampDownDefault, awprRpmPower, awprRpmTorque,
    awprRpmEmtb, cadPowerPerUnitX100, cadPowerMaxX100, walkSpeedMaxX10, walkRampUp, walkICap,
    cruiseSpeedMinX10, cruiseRampUp, kp, kd, kiNum, kiDen, calRampUp, calRampDown, thrSpeedLoX10,
    thrSpeedHiX10, thrRampUpMin, thrRampUpDefault, thrRampDownMin, thrRampDownDefault,
    commLossTicks,
    emtbLut := lawfulLut p.emtbLut, crc16 := p.crc16, decodePayload := p.decodePayload }

/-- The pairs the default layout of spec/30_encoding.md R108 gives (that rule's invention, for tests):
16-bit fields little-endian. The Hall kinds carry no register. -/
def defaultDecodePayload : MsgId → Payload → List CfgWrite
  | .limits, q => [.iMaxAdc q.b0, .pMaxW (q.b2 ++ q.b1)]
  | .wheelAssist, q => [.wheelPerimeterMm (q.b1 ++ q.b0), .maxSpeedKmh q.b2, .torquePerStepX100 q.b3, .awprThreshold q.b4]
  | .optFn, q => [.optFunction q.b0, .tempMin q.b1, .tempMax q.b2]
  | .hallAngles, _ => []
  | .hallOffsets, _ => []

/-- The fields of the outbound record but its CRC (spec/30_encoding.md R104), in the document's order.
`unlisted6` are the six bytes the field list does not account for (spec/90_conflicts.md C5).
DESIGN CHOICE: `fw_version` is 7 bits wide, where R104 says up to 7 bits (notes/assumptions/23.md). -/
structure TxBody where
  start : Byte
  vbatX1000 : Half
  ibatX10 : Byte
  wheelSpeedX10 : BitVec 12
  status4 : BitVec 4
  cadenceRpm : Byte
  brake : Bool
  fwVersion : BitVec 7
  faultCode : Byte
  tempDiv10 : Byte
  duty : Byte
  motorErps : Half
  focAngle : Byte
  fwOffset : Byte
  telemetry6 : BitVec 48
  unlisted6 : BitVec 48
deriving DecidableEq, Repr, Inhabited

end Sys2Proof

namespace Sys2Proof.Config

/-- An arbitrary record, of which nothing is known. -/
opaque anyParams : Params

/-- The implementation's configuration record: an arbitrary legal one (notes/assumptions/7.md). -/
def P : Params := anyParams.legalise

/-- Free value: the n-th draw of the outbound field `status4` (spec/30_encoding.md R104). -/
opaque freeStatus4 : Nat → BitVec 4
/-- Free value: the n-th draw of the outbound field `fw_version`. -/
opaque freeFwVersion : Nat → BitVec 7
/-- Free value: the n-th draw of the outbound field `telemetry6`. -/
opaque freeTelemetry6 : Nat → BitVec 48
/-- Free value: the n-th draw of the six outbound bytes the field list does not account for. -/
opaque freeUnlisted6 : Nat → BitVec 48
/-- Free value: bytes 1 to 26 of the outbound frame's image, whose layout cannot be recovered
(spec/90_conflicts.md C5; notes/assumptions/6.md). -/
opaque freeTxMiddle : TxBody → Vector Byte 26

end Sys2Proof.Config
end

