-- ==== Sys2Proof/Decode.lean ====
section
/-! DEFINITION. The four decoders of spec/30_encoding.md (R90 to R102), total and rejecting by name, the encoder
written from the same tables, and the host's numbering of the opcode table's words (`decodeTableWord`). -/

namespace Sys2Proof

/-- Two bytes of a little-endian 16-bit field, low byte first (spec/30_encoding.md R99). -/
def u16le (lo hi : Byte) : Half := hi ++ lo

/-- `v[7:0]`, the first byte on the wire of a 16-bit field (spec/20_memory.md R65). -/
def lowByte (v : Half) : Byte := v.extractLsb' 0 8

/-- `v[15:8]`, the second byte on the wire of a 16-bit field (spec/20_memory.md R65). -/
def highByte (v : Half) : Byte := v.extractLsb' 8 8

/-- `mode_of`, total: codes 8 to 255 are OFF (spec/30_encoding.md R92). -/
def modeOf (m : Byte) : Mode :=
  match m.toNat with
  | 1 => .power
  | 2 => .cadence
  | 3 => .torque
  | 4 => .emtb
  | 5 => .walk
  | 6 => .cruise
  | 7 => .calib
  | _ => .off

/-- The code of a riding mode (spec/30_encoding.md R92). -/
def modeCode : Mode → Byte
  | .off => 0
  | .power => 1
  | .cadence => 2
  | .torque => 3
  | .emtb => 4
  | .walk => 5
  | .cruise => 6
  | .calib => 7

/-- `ovl_of`, total: code 3 acts as NONE (spec/30_encoding.md R94). -/
def ovlOf (b : BitVec 2) : Overlay :=
  match b.toNat with
  | 1 => .throttle
  | 2 => .temp
  | _ => .none

/-- The overlay code held in OPT_FUNCTION: bits 1:0; bits 7:2 are ignored (spec/10_state.md R39). -/
def ovlBits (c14 : Byte) : BitVec 2 := c14.extractLsb' 0 2

/-- The message kinds by message-ID; 5 to 255 are reserved (spec/30_encoding.md R102). -/
def msgOf (b : Byte) : Option MsgId :=
  match b.toNat with
  | 0 => some .limits
  | 1 => some .wheelAssist
  | 2 => some .optFn
  | 3 => some .hallAngles
  | 4 => some .hallOffsets
  | _ => none

/-- The message-ID of a message kind (spec/30_encoding.md R102). -/
def msgCode : MsgId → Byte
  | .limits => 0
  | .wheelAssist => 1
  | .optFn => 2
  | .hallAngles => 3
  | .hallOffsets => 4

/-- The stage operation of a stage code; all eight codes are used (spec/30_encoding.md R93). -/
def stageInstr (b : BitVec 3) : Instr :=
  match b.toNat with
  | 0 => .idle
  | 1 => .sense
  | 2 => .health
  | 3 => .law
  | 4 => .overlay
  | 5 => .speedlim
  | 6 => .arbiter
  | _ => .comm

/-- The law operation of a riding mode, with its parameter. -/
def cmdInstr (m : Mode) (p : Byte) : Instr :=
  match m with
  | .off => .off p
  | .power => .power p
  | .cadence => .cadence p
  | .torque => .torque p
  | .emtb => .emtb p
  | .walk => .walk p
  | .cruise => .cruise p
  | .calib => .calib p

/-- The overlay operation of an overlay. -/
def ovlInstr : Overlay → Instr
  | .none => .ovlNone
  | .throttle => .ovlThrottle
  | .temp => .ovlTemp

/-- The frame operation of a message kind, with its fields. -/
def frameInstr (k : MsgId) (f : FrameArgs) : Instr :=
  match k with
  | .limits => .frameLimits f
  | .wheelAssist => .frameWheelAssist f
  | .optFn => .frameOptfn f
  | .hallAngles => .frameHallAngles f
  | .hallOffsets => .frameHallOffsets f

/-- Why an inbound frame is dropped (spec/30_encoding.md R101, R106). -/
inductive Reject
  /-- Byte 0 is not 0x59. -/
  | badStart
  /-- The message-ID is 5 to 255. -/
  | reservedMsgId
  /-- The CRC of bytes 0 to 10 is not the one in bytes 11 and 12. -/
  | badCrc
deriving DecidableEq, Repr

/-- A code together with the place that holds it, which gives its length (spec/30_encoding.md R90). -/
inductive Code
  /-- `S.stage` -/
  | stage (b : BitVec 3)
  /-- `{c[0], c[1]}` -/
  | cmd (w : Half)
  /-- `c[14][1:0]` -/
  | ovl (b : BitVec 2)
  /-- `S.rx_buf`, byte 0 first -/
  | rxf (f : Vector Byte 13)
deriving DecidableEq, Repr

/-- The fields of a 13-byte frame (spec/30_encoding.md R100). -/
def frameArgs (f : Vector Byte 13) : FrameArgs :=
  { mode := f[2], param := f[3], lights := f[4],
    payload := { b0 := f[5], b1 := f[6], b2 := f[7], b3 := f[8], b4 := f[9], b5 := f[10] },
    crcLo := f[11], crcHi := f[12] }

/-- The format RXF read but for its CRC: start byte and message-ID (spec/30_encoding.md R100 to R102). -/
def decodeFrame (f : Vector Byte 13) : Except Reject (MsgId × FrameArgs) :=
  if f[0] = Config.RX_START then
    match msgOf f[1] with
    | some k => .ok (k, frameArgs f)
    | none => .error .reservedMsgId
  else .error .badStart

/-- The instruction a code stands for. Only frames can be rejected. The CRC, whose function is a parameter,
is tested by `acceptFrame` (notes/assumptions/9.md). -/
def decode : Code → Except Reject Instr
  | .stage b => .ok (stageInstr b)
  | .cmd w => .ok (cmdInstr (modeOf (w.extractLsb' 8 8)) (w.extractLsb' 0 8))
  | .ovl b => .ok (ovlInstr (ovlOf b))
  | .rxf f =>
    match decodeFrame f with
    | .ok (k, a) => .ok (frameInstr k a)
    | .error e => .error e

/-- Bytes 0 to 10 of a frame, which its CRC covers (spec/30_encoding.md R101). -/
def crcCovered (f : Vector Byte 13) : List Byte := f.toList.take 11

/-- `accept`: start byte, message-ID and CRC (spec/30_encoding.md R101); what is not accepted is dropped whole. -/
def acceptFrame (P : Params) (f : Vector Byte 13) : Except Reject (MsgId × FrameArgs) :=
  match decodeFrame f with
  | .ok r => if P.crc16 (crcCovered f) = u16le f[11] f[12] then .ok r else .error .badCrc
  | .error e => .error e

/-! ### The encoder -/

/-- The 13 bytes of a frame, in wire order (spec/30_encoding.md R100). -/
def frameBytes (k : MsgId) (a : FrameArgs) : Vector Byte 13 :=
  #v[Config.RX_START, msgCode k, a.mode, a.param, a.lights,
    a.payload.b0, a.payload.b1, a.payload.b2, a.payload.b3, a.payload.b4, a.payload.b5, a.crcLo, a.crcHi]

/-- The command word of a mode and parameter: mode in bits 15:8 (spec/30_encoding.md R91). -/
def cmdWord (m : Mode) (p : Byte) : Half := modeCode m ++ p

/-- The code of an instruction, from the tables of spec/30_encoding.md R91 to R94, R100, R102. -/
def encode : Instr → Code
  | .idle => .stage 0
  | .sense => .stage 1
  | .health => .stage 2
  | .law => .stage 3
  | .overlay => .stage 4
  | .speedlim => .stage 5
  | .arbiter => .stage 6
  | .comm => .stage 7
  | .off p => .cmd (cmdWord .off p)
  | .power p => .cmd (cmdWord .power p)
  | .cadence p => .cmd (cmdWord .cadence p)
  | .torque p => .cmd (cmdWord .torque p)
  | .emtb p => .cmd (cmdWord .emtb p)
  | .walk p => .cmd (cmdWord .walk p)
  | .cruise p => .cmd (cmdWord .cruise p)
  | .calib p => .cmd (cmdWord .calib p)
  | .ovlNone => .ovl 0
  | .ovlThrottle => .ovl 1
  | .ovlTemp => .ovl 2
  | .frameLimits f => .rxf (frameBytes .limits f)
  | .frameWheelAssist f => .rxf (frameBytes .wheelAssist f)
  | .frameOptfn f => .rxf (frameBytes .optFn f)
  | .frameHallAngles f => .rxf (frameBytes .hallAngles f)
  | .frameHallOffsets f => .rxf (frameBytes .hallOffsets f)

/-- The fields with the CRC bytes the assembler computes (spec/30_encoding.md R117). -/
def withCrc (P : Params) (k : MsgId) (a : FrameArgs) : FrameArgs :=
  let crc := P.crc16 (crcCovered (frameBytes k a))
  { a with crcLo := lowByte crc, crcHi := highByte crc }

/-- A frame with its last two bytes replaced by the CRC of the other eleven (spec/30_encoding.md R101). -/
def sealFrame (P : Params) (f : Vector Byte 13) : Vector Byte 13 :=
  let crc := P.crc16 (crcCovered f)
  #v[f[0], f[1], f[2], f[3], f[4], f[5], f[6], f[7], f[8], f[9], f[10], lowByte crc, highByte crc]

/-! ### The host's numbering of the opcode table's words -/

/-- Byte `k` of a number, byte 0 least significant. -/
def byteOf (w k : Nat) : Byte := BitVec.ofNat 8 (w >>> (8 * k))

/-- The 13 bytes of a table word of 104 bits: byte 0 in its lowest eight bits, as the host counts bits. The
table itself writes byte 0 as the leftmost two hex digits; a word whose lowest byte is not the start byte is
read that way (notes/assumptions/10.md). -/
def tableFrame (w : Nat) : Vector Byte 13 :=
  if byteOf w 0 = Config.RX_START then
    #v[byteOf w 0, byteOf w 1, byteOf w 2, byteOf w 3, byteOf w 4, byteOf w 5, byteOf w 6, byteOf w 7,
      byteOf w 8, byteOf w 9, byteOf w 10, byteOf w 11, byteOf w 12]
  else
    #v[byteOf w 12, byteOf w 11, byteOf w 10, byteOf w 9, byteOf w 8, byteOf w 7, byteOf w 6, byteOf w 5,
      byteOf w 4, byteOf w 3, byteOf w 2, byteOf w 1, byteOf w 0]

/-- The code a table word of `nbits` bits stands for. One byte is a stage code, and so is a word of 3 bits; an
overlay code is a word of 2 bits (notes/assumptions/10.md). -/
def tableCode (nbits w : Nat) : Option Code :=
  if nbits = 3 ∨ nbits = 8 then if w < 8 then some (.stage (BitVec.ofNat 3 w)) else none
  else if nbits = 2 then if w < 4 then some (.ovl (BitVec.ofNat 2 w)) else none
  else if nbits = 16 then if w < 2 ^ 16 then some (.cmd (BitVec.ofNat 16 w)) else none
  else if nbits = 104 then if w < 2 ^ 104 then some (.rxf (tableFrame w)) else none
  else none

/-- The instruction the decoder reads from a table word. -/
def decodeTableWord (nbits w : Nat) : Option Instr :=
  match tableCode nbits w with
  | some c =>
    match decode c with
    | .ok i => some i
    | .error _ => none
  | none => none

/-- The number of bytes `bs`, byte 0 least significant. -/
def natOfBytes : List Byte → Nat
  | [] => 0
  | b :: bs => b.toNat + 256 * natOfBytes bs

/-- The table word of a code, with the number of bits that says which format it is. -/
def codeWord : Code → Nat × Nat
  | .stage b => (3, b.toNat)
  | .ovl b => (2, b.toNat)
  | .cmd w => (16, w.toNat)
  | .rxf f => (104, natOfBytes f.toList)

end Sys2Proof
end

