-- ==== Sys2Proof/Machine/State.lean ====
section
/-! DEFINITION. The machine's state (spec/10_state.md R20): plain data, grouped as the spec groups it. The
datapath registers are exact integers (R24, spec/40_arith_primitives.md R130); their widths are an invariant
(Safety.lean). Control registers, frames and ports are bit vectors. The last five fields are the model's own. -/

namespace Sys2Proof.Machine

/-- The input sample of one tick (spec/10_state.md R21, R22). -/
structure Inputs where
  adcVbat : BitVec 10
  adcIbatFilt : BitVec 10
  adcTorque : BitVec 10
  adcAux : BitVec 10
  cadenceTicks : Half
  wheelTicks : Half
  motorErps : Half
  dutyNow : Byte
  brake : Bool
  adminDisable : Bool
  focAngle : Byte
  fwOffset : Byte
deriving DecidableEq, Repr

/-- A sample with every port 0. -/
def Inputs.zero : Inputs :=
  { adcVbat := 0, adcIbatFilt := 0, adcTorque := 0, adcAux := 0, cadenceTicks := 0, wheelTicks := 0,
    motorErps := 0, dutyNow := 0, brake := false, adminDisable := false, focAngle := 0, fwOffset := 0 }

/-- The SensorSample registers (spec/10_state.md R25). -/
structure Sensor where
  vbatX1000 : Nat
  ibatX10 : Nat
  torqueAdc : Nat
  torqueDelta : Nat
  torqueX100 : Nat
  cadenceRpm : Nat
  wheelSpeedX10 : Nat
  motorErps : Nat
  cadenceTicksMin : Nat
deriving DecidableEq, Repr

/-- The four values of an AssistOutput (spec/10_state.md R26) and of the committed drive tuple (R27). -/
structure DriveTuple where
  iTarget : Nat
  dutyTarget : Nat
  rampUp : Nat
  rampDown : Nat
deriving DecidableEq, Repr

/-- The control registers that hold state: c0 to c3 and c8 to c16 (spec/10_state.md R31). c4 is a view
(Flags.lean), c5 to c7 are not implemented. -/
structure Csr where
  /-- c0 MODE -/
  mode : Byte
  /-- c1 PARAM -/
  param : Byte
  /-- c2 LIGHTS -/
  lights : Byte
  /-- c3 FAULT -/
  fault : Byte
  /-- c8 I_MAX_ADC -/
  iMaxAdc : Byte
  /-- c9 P_MAX_W -/
  pMaxW : Half
  /-- c10 WHEEL_PERIMETER_MM -/
  wheelPerimeterMm : Half
  /-- c11 MAX_SPEED_KMH -/
  maxSpeedKmh : Byte
  /-- c12 TORQUE_PER_STEP_X100 -/
  torquePerStepX100 : Byte
  /-- c13 AWPR_THRESHOLD -/
  awprThreshold : Byte
  /-- c14 OPT_FUNCTION -/
  optFunction : Byte
  /-- c15 TEMP_MIN -/
  tempMin : Byte
  /-- c16 TEMP_MAX -/
  tempMax : Byte
deriving DecidableEq, Repr

/-- The one-bit flags (spec/10_state.md R41). -/
structure Flags where
  motorEnabled : Bool
  mbFault : Bool
  tsFault : Bool
  cruiseInitPending : Bool
  calDone : Bool
  frameReady : Bool
deriving DecidableEq, Repr

/-- The CruisePID file (spec/10_state.md R42). -/
structure CruisePid where
  error : Int
  lastError : Int
  integral : Int
  derivative : Int
  output : Int
  targetX10 : Nat
deriving DecidableEq, Repr

/-- The calibration and filter registers (spec/10_state.md R43). -/
structure Filters where
  vbatAcc : Nat
  toffAcc : Nat
  torqueOffset : Nat
  coasterThr : Nat
  tempAcc : Nat
  tempX10 : Nat
deriving DecidableEq, Repr

/-- The tick counters (spec/10_state.md R44). -/
structure Counters where
  calTicks : Nat
  mbCount : Nat
  mbResetCount : Nat
  commLossCount : Nat
deriving DecidableEq, Repr

/-- The outbound record `S.tx_rec` (spec/30_encoding.md R104, spec/20_memory.md R69). -/
structure TxRec where
  body : TxBody
  crc : Half
deriving DecidableEq, Repr

/-- The strobe outputs and the values driven with them (spec/10_state.md R23). -/
structure Strobes where
  pwmEnable : Bool
  pwmDisable : Bool
  dutySeedValid : Bool
  dutySeed : Nat
  fwOffsetReset : Bool
  hallCfgValid : Bool
  hallCfgId : BitVec 1
  hallCfgData : Payload
deriving DecidableEq, Repr

/-- The bytes of one address space: (address, byte) pairs, addresses strictly rising, no byte equal to 0,
which is what an unlisted address reads as (spec/20_memory.md R68: all bytes reset to 0). -/
abbrev Memory := List Host.Cell

/-- The canonical form of a memory whose addresses are `lo` to `hi - 1`. -/
def Memory.wfFrom (lo hi : Nat) : Memory → Bool
  | [] => true
  | (a, b) :: m => decide (lo ≤ a) && decide (a < hi) && decide (b ≠ 0) && Memory.wfFrom (a + 1) hi m

/-- The canonical form of the RX space, whose addresses are 0 to 12 (spec/20_memory.md R60). -/
def Memory.wf (m : Memory) : Bool := Memory.wfFrom 0 Config.RX_LEN m

/-- What reaches the block from outside (spec/00_scope.md R7, spec/60_exceptions.md R367). -/
inductive Event
  /-- The `tick` event with the tick's input sample (spec/10_state.md R22). -/
  | tick (inp : Inputs)
  /-- The RX agent's step `RxDeliver(f)` (spec/20_memory.md R70). -/
  | rxDeliver (f : Vector Byte 13)
  /-- The TX agent's step `TxDrain` (spec/20_memory.md R72). -/
  | txDrain
  /-- The `rst` event (spec/70_reset_and_hazards.md R400). -/
  | rst
deriving DecidableEq, Repr

/-- The machine's state. -/
structure State where
  /-- `S.stage` (spec/10_state.md R30) -/
  stage : BitVec 3
  /-- `S.tick_mod4` (R30) -/
  tickMod4 : BitVec 2
  /-- SensorSample (R25) -/
  sensor : Sensor
  /-- AssistOutput `A` (R26) -/
  a : DriveTuple
  /-- Drive registers `DRV` (R27) -/
  drv : DriveTuple
  /-- `S.i_max` (R45) -/
  iMax : Nat
  /-- control registers (R31) -/
  csr : Csr
  /-- flags (R41) -/
  flags : Flags
  /-- CruisePID (R42) -/
  pid : CruisePid
  /-- calibration and filter registers (R43) -/
  filt : Filters
  /-- counters (R44) -/
  cnt : Counters
  /-- `S.rx_buf`: the RX space (R46, spec/20_memory.md R68) -/
  rxBuf : Memory
  /-- `S.tx_rec` (spec/20_memory.md R69) -/
  txRec : TxRec
  /-- `S.tx_count` (spec/20_memory.md R69) -/
  txCount : Nat
  /-- the model's own: the sample `IN` of the tick in progress or last run (R22) -/
  inp : Inputs
  /-- the model's own: the strobe outputs (R23) -/
  out : Strobes
  /-- the model's own: the events still to come, the next one first -/
  env : List Event
  /-- the model's own: how many telemetry draws have been made (spec/30_encoding.md R104) -/
  draws : Nat
  /-- the model's own: the byte the TX agent took last, if it has taken one since reset (spec/20_memory.md R72;
  notes/assumptions/24.md) -/
  txSent : Option Byte
deriving DecidableEq, Repr

/-- Why a step stops with a fault: never. "No exceptions/error returns in this subsystem": no operation of the
block can stop it (spec/60_exceptions.md R360, spec/30_encoding.md R106), and the faults of the spec are latches
in State (notes/assumptions/20.md). There is no constructor, which is safe only if R360 is right. -/
inductive Fault
deriving DecidableEq, Repr

/-- Why a step is refused. -/
inductive Refusal
  /-- Raised by an arm of `exec` whose instruction has no meaning yet; no arm does. Safe: nothing is claimed of a
  run that ends here. -/
  | notModelled (mnemonic : String)
deriving DecidableEq, Repr

/-- The state after the `rst` event under parameters `P`: the reset columns of spec/10_state.md, collected in
spec/70_reset_and_hazards.md R400. The five fields of the model's own: notes/assumptions/2.md to 5.md,
24.md. -/
def State.resetWith (P : Params) : State :=
  { stage := 0
    tickMod4 := 0
    sensor := { vbatX1000 := 0, ibatX10 := 0, torqueAdc := 0, torqueDelta := 0, torqueX100 := 0, cadenceRpm := 0,
                wheelSpeedX10 := 0, motorErps := 0, cadenceTicksMin := P.ctmTicksLo }
    a := { iTarget := 0, dutyTarget := 0, rampUp := P.rampUpDefault, rampDown := P.rampDownDefault }
    drv := { iTarget := 0, dutyTarget := 0, rampUp := P.rampUpDefault, rampDown := P.rampDownMin }
    iMax := 0
    csr := { mode := 0, param := 0, lights := 0, fault := 0, iMaxAdc := 0, pMaxW := 0, wheelPerimeterMm := 0,
             maxSpeedKmh := 0, torquePerStepX100 := 0, awprThreshold := 0, optFunction := 0, tempMin := 0,
             tempMax := 0 }
    flags := { motorEnabled := false, mbFault := false, tsFault := false, cruiseInitPending := true,
               calDone := false, frameReady := false }
    pid := { error := 0, lastError := 0, integral := 0, derivative := 0, output := 0, targetX10 := 0 }
    filt := { vbatAcc := 0, toffAcc := P.toffInit * 2 ^ P.toffK, torqueOffset := P.toffInit, coasterThr := 0,
              tempAcc := 0, tempX10 := 0 }
    cnt := { calTicks := 0, mbCount := 0, mbResetCount := 0, commLossCount := 0 }
    rxBuf := []
    txRec := { body := { start := 0, vbatX1000 := 0, ibatX10 := 0, wheelSpeedX10 := 0, status4 := 0, cadenceRpm := 0,
                         brake := false, fwVersion := 0, faultCode := 0, tempDiv10 := 0, duty := 0, motorErps := 0,
                         focAngle := 0, fwOffset := 0, telemetry6 := 0, unlisted6 := 0 }
               crc := 0 }
    txCount := 0
    inp := Inputs.zero
    out := { pwmEnable := false, pwmDisable := false, dutySeedValid := false, dutySeed := 0, fwOffsetReset := false,
             hallCfgValid := false, hallCfgId := 0, hallCfgData := { b0 := 0, b1 := 0, b2 := 0, b3 := 0, b4 := 0, b5 := 0 } }
    env := []
    draws := 0
    txSent := none }

/-- The machine right after reset (spec/70_reset_and_hazards.md R400). -/
def State.reset : State := State.resetWith Config.P

end Sys2Proof.Machine
end

