-- ==== Sys2Proof/Machine/Ops.lean ====
section
/-! DEFINITION. The named operations: register updates, the arithmetic primitives of
spec/40_arith_primitives.md, the RX space and the LUT ROM of spec/20_memory.md, and taking a fault
(spec/60_exceptions.md R362), which is the arbiter's safe tuple. -/

namespace Sys2Proof.Machine

/-! ### Register updates -/

/-- `s` with its field `stage` replaced. -/
def State.setStage (s : State) (x : BitVec 3) : State := { s with stage := x }

/-- `s` with its field `tickMod4` replaced. -/
def State.setTickMod4 (s : State) (x : BitVec 2) : State := { s with tickMod4 := x }

/-- `s` with its field `sensor` replaced. -/
def State.setSensor (s : State) (x : Sensor) : State := { s with sensor := x }

/-- `s` with its field `a` replaced. -/
def State.setA (s : State) (x : DriveTuple) : State := { s with a := x }

/-- `s` with its field `drv` replaced. -/
def State.setDrv (s : State) (x : DriveTuple) : State := { s with drv := x }

/-- `s` with its field `iMax` replaced. -/
def State.setIMax (s : State) (x : Nat) : State := { s with iMax := x }

/-- `s` with its field `csr` replaced. -/
def State.setCsr (s : State) (x : Csr) : State := { s with csr := x }

/-- `s` with its field `flags` replaced. -/
def State.setFlags (s : State) (x : Flags) : State := { s with flags := x }

/-- `s` with its field `pid` replaced. -/
def State.setPid (s : State) (x : CruisePid) : State := { s with pid := x }

/-- `s` with its field `filt` replaced. -/
def State.setFilt (s : State) (x : Filters) : State := { s with filt := x }

/-- `s` with its field `cnt` replaced. -/
def State.setCnt (s : State) (x : Counters) : State := { s with cnt := x }

/-- `s` with its field `rxBuf` replaced. -/
def State.setRxBuf (s : State) (x : Memory) : State := { s with rxBuf := x }

/-- `s` with its field `txRec` replaced. -/
def State.setTxRec (s : State) (x : TxRec) : State := { s with txRec := x }

/-- `s` with its field `txCount` replaced. -/
def State.setTxCount (s : State) (x : Nat) : State := { s with txCount := x }

/-- `s` with its field `inp` replaced. -/
def State.setInp (s : State) (x : Inputs) : State := { s with inp := x }

/-- `s` with its field `out` replaced. -/
def State.setOut (s : State) (x : Strobes) : State := { s with out := x }

/-- `s` with its field `env` replaced. -/
def State.setEnv (s : State) (x : List Event) : State := { s with env := x }

/-- `s` with its field `draws` replaced. -/
def State.setDraws (s : State) (x : Nat) : State := { s with draws := x }

/-- `s` with its field `txSent` replaced. -/
def State.setTxSent (s : State) (x : Option Byte) : State := { s with txSent := x }

/-! ### Arithmetic primitives -/

/-- `sat_sub` (spec/40_arith_primitives.md R134). -/
def satSub (a b : Nat) : Nat := a - b

/-- `clamp` on signed integers (spec/40_arith_primitives.md R134). -/
def clampInt (v lo hi : Int) : Int := min (max v lo) hi

/-- `lerp` (spec/40_arith_primitives.md R135). -/
def lerp (x x0 x1 y0 y1 : Nat) : Nat :=
  if x ≤ x0 then y0
  else if x1 ≤ x then y1
  else if y0 ≤ y1 then y0 + ((x - x0) * (y1 - y0)) / (x1 - x0)
  else y0 - ((x - x0) * (y0 - y1)) / (x1 - x0)

/-- `a >> k` for a non-negative `a` (spec/00_scope.md R13). -/
def shiftRight (a k : Nat) : Nat := a / 2 ^ k

/-- `iir` (spec/40_arith_primitives.md R137). -/
def iir (acc raw k : Nat) : Nat := acc - shiftRight acc k + raw

/-- `p2i` at the present filtered battery voltage (spec/40_arith_primitives.md R139). -/
def p2i (P : Params) (s : State) (pX100 : Nat) : Nat :=
  if s.sensor.vbatX1000 = 0 then 0 else ((pX100 * 1000) / s.sensor.vbatX1000) / P.ibatStepX100

/-! ### The LUT ROM -/

/-- The byte address of entry `idx` of table `level` (spec/20_memory.md R62). -/
def lutAddress (level idx : Nat) : Nat := (level - 1) * Config.EMTB_ENTRIES + idx

/-- The ROM's byte at an address (spec/20_memory.md R62, R64). -/
def romRead (P : Params) (addr : Nat) : Nat :=
  P.emtbLut (addr / Config.EMTB_ENTRIES + 1) (addr % Config.EMTB_ENTRIES)

/-- `LUT(level, idx)`, called with levels 1 to 20 and indices 0 to 240 only (spec/20_memory.md R63). -/
def lut (P : Params) (level idx : Nat) : Nat := romRead P (lutAddress level idx)

/-! ### The RX space -/

/-- The byte at address `k`; an unlisted address reads 0 (spec/20_memory.md R68). -/
def Memory.read (k : Nat) : Memory → Byte
  | [] => 0
  | (a, b) :: m => if a = k then b else Memory.read k m

/-- Byte `b` written at address `k`, in canonical form: a 0 is not listed. -/
def Memory.write (k : Nat) (b : Byte) : Memory → Memory
  | [] => if b = 0 then [] else [(k, b)]
  | (a, c) :: m =>
    if a < k then (a, c) :: Memory.write k b m
    else if a = k then (if b = 0 then m else (k, b) :: m)
    else if b = 0 then (a, c) :: m else (k, b) :: (a, c) :: m

/-- The bytes `bs` written from address `k` upwards. -/
def Memory.writeBytes (k : Nat) : List Byte → Memory → Memory
  | [], m => m
  | b :: bs, m => Memory.writeBytes (k + 1) bs (Memory.write k b m)

/-- Byte `k` of the receive buffer. -/
def State.rxByte (s : State) (k : Nat) : Byte := Memory.read k s.rxBuf

/-- The 13 bytes of the receive buffer in wire order (spec/20_memory.md R67, R68). -/
def rxFrame (s : State) : Vector Byte 13 :=
  #v[s.rxByte 0, s.rxByte 1, s.rxByte 2, s.rxByte 3, s.rxByte 4, s.rxByte 5, s.rxByte 6, s.rxByte 7, s.rxByte 8,
    s.rxByte 9, s.rxByte 10, s.rxByte 11, s.rxByte 12]

/-- The frame `f` stored in the receive buffer (spec/20_memory.md R70). -/
def storeFrame (f : Vector Byte 13) (s : State) : State := s.setRxBuf (Memory.writeBytes 0 f.toList s.rxBuf)

/-! ### The TX space -/

/-- Bytes 0 to 26 of an outbound frame: the start byte, then bytes of unknown layout (spec/00_scope.md R6(c),
spec/30_encoding.md R104; notes/assumptions/6.md). -/
def txImage (r : TxBody) : List Byte := r.start :: (Config.freeTxMiddle r).toList

/-- The 29 bytes of an outbound frame in wire order: what its CRC covers, then the CRC, low byte first
(spec/30_encoding.md R104, spec/20_memory.md R65). -/
def txFrame (r : TxRec) : List Byte := txImage r.body ++ [lowByte r.crc, highByte r.crc]

/-- The byte the TX agent takes next: with `n` bytes left it is byte `29 - n`, since byte k of a frame is the k-th on
the wire (spec/20_memory.md R69, R72, spec/00_scope.md R12). No run has more than 29 left (notes/assumptions/24.md). -/
def nextTxByte (s : State) : Option Byte := (txFrame s.txRec)[Config.TX_LEN - s.txCount]?

/-! ### Faults: raising one, and what it makes the arbiter do -/

/-- `raise MotorBlocked` (spec/46_health_monitor.md R312): the latch is set and both counters start from 0.
Nothing is saved and no control is transferred (spec/60_exceptions.md R362). -/
def raiseMotorBlocked (s : State) : State :=
  (s.setFlags { s.flags with mbFault := true }).setCnt { s.cnt with mbCount := 0, mbResetCount := 0 }

/-- The end of MotorBlocked (spec/46_health_monitor.md R312). There is no return operation: nothing is
restored, because nothing was saved (spec/60_exceptions.md R364). -/
def clearMotorBlocked (s : State) : State :=
  (s.setFlags { s.flags with mbFault := false }).setCnt { s.cnt with mbCount := 0, mbResetCount := 0 }

/-- The safe tuple (spec/45_arbiter_enable_fsm.md R286). -/
def safeTuple (P : Params) : DriveTuple :=
  { iTarget := 0, dutyTarget := 0, rampUp := P.rampUpDefault, rampDown := P.rampDownMin }

/-- The whole effect a latched fault has on the outputs: the arbiter commits the safe tuple
(spec/60_exceptions.md R362, spec/45_arbiter_enable_fsm.md R286). AssistOutput is not modified. -/
def commitSafe (P : Params) (s : State) : State := s.setDrv (safeTuple P)

end Sys2Proof.Machine
end

