-- ==== Sys2Proof/Machine/Operands.lean ====
section
/-! DEFINITION. Operands: how each operation's operand values are taken from control registers, frames and
sensors (spec/30_encoding.md R98, R99; spec/42_assist_laws.md R194). -/

namespace Sys2Proof.Machine

/-- The parameter byte, zero-extended (spec/30_encoding.md R98). -/
def paramValue (p : Byte) : Nat := p.toNat

/-- `lights_state`, bit 7 of c2 (spec/10_state.md R34). -/
def lightsState (c2 : Byte) : Bool := c2.getLsbD 7

/-- `lights_cfg`, bits 6:0 of c2 (spec/10_state.md R34). -/
def lightsCfg (c2 : Byte) : BitVec 7 := c2.extractLsb' 0 7

/-- The register number a configuration pair names (spec/10_state.md R31). -/
def cfgReg : CfgWrite → Nat
  | .iMaxAdc _ => 8
  | .pMaxW _ => 9
  | .wheelPerimeterMm _ => 10
  | .maxSpeedKmh _ => 11
  | .torquePerStepX100 _ => 12
  | .awprThreshold _ => 13
  | .optFunction _ => 14
  | .tempMin _ => 15
  | .tempMax _ => 16

/-- `c[r] <- v` for one configuration pair; stored as written (spec/10_state.md R40). -/
def cfgApply (c : Csr) : CfgWrite → Csr
  | .iMaxAdc v => { c with iMaxAdc := v }
  | .pMaxW v => { c with pMaxW := v }
  | .wheelPerimeterMm v => { c with wheelPerimeterMm := v }
  | .maxSpeedKmh v => { c with maxSpeedKmh := v }
  | .torquePerStepX100 v => { c with torquePerStepX100 := v }
  | .awprThreshold v => { c with awprThreshold := v }
  | .optFunction v => { c with optFunction := v }
  | .tempMin v => { c with tempMin := v }
  | .tempMax v => { c with tempMax := v }

/-- The pairs whose register lies in `lo` to `hi`, written in order; the others are ignored
(spec/47_sequencer_host.md R347 to R349). -/
def cfgApplyGroup (lo hi : Nat) (ws : List CfgWrite) (c : Csr) : Csr :=
  (ws.filter fun w => decide (lo ≤ cfgReg w) && decide (cfgReg w ≤ hi)).foldl cfgApply c

/-- `eff_cadence`: assist without pedal rotation (spec/42_assist_laws.md R194). -/
def effCadence (rpmSynth : Nat) (s : State) : Nat :=
  if s.csr.awprThreshold ≠ 0 ∧ s.sensor.wheelSpeedX10 = 0 ∧ s.sensor.cadenceRpm = 0
      ∧ satSub Config.AWPR_BASE s.csr.awprThreshold.toNat < s.sensor.torqueDelta
  then rpmSynth else s.sensor.cadenceRpm

/-- The eMTB index: the torque delta plus 10, saturated at 240 (spec/42_assist_laws.md R206). -/
def emtbIndex (s : State) : Nat := min (s.sensor.torqueDelta + Config.EMTB_OFFSET) Config.EMTB_SAT

end Sys2Proof.Machine
end

