-- ==== Sys2Proof/Machine/Flags.lean ====
section
/-! DEFINITION. Every condition computed from flags or for them, the STATUS view c4, the numbered register view,
and the level output ports (spec/10_state.md R23, R31, R36, R41). -/

namespace Sys2Proof.Machine

/-- The fault code c3 shows: MotorBlocked over TorqueSensorFault (spec/46_health_monitor.md R318). -/
def faultCode (f : Flags) : Byte := if f.mbFault then 1 else if f.tsFault then 2 else 0

/-- The motor-blocked condition (spec/46_health_monitor.md R312). -/
def mbCond (s : State) : Bool :=
  decide (Config.MB_CURRENT_X10 < s.sensor.ibatX10) && decide (s.sensor.motorErps < Config.MB_ERPS)

/-- Whether a riding mode arms the torque-sensor fault (spec/46_health_monitor.md R316). -/
def consumesTorque : Mode → Bool
  | .off => false
  | .power => true
  | .cadence => false
  | .torque => true
  | .emtb => true
  | .walk => false
  | .cruise => false
  | .calib => false

/-- The torque-sensor-fault level (spec/46_health_monitor.md R316). -/
def tsCond (s : State) : Bool :=
  consumesTorque (modeOf s.csr.mode) &&
    (decide (s.filt.torqueOffset < Config.TS_OFFSET_MIN) || decide (Config.TS_OFFSET_MAX < s.filt.torqueOffset)
      || decide (Config.TS_TORQUE_MAX < s.sensor.torqueAdc))

/-- The clean-stop condition of Enabled to Disabled, the flag aside (spec/45_arbiter_enable_fsm.md R283). -/
def stopCond (s : State) : Bool :=
  decide (s.sensor.motorErps = 0) && decide (s.a.iTarget = 0) && decide (s.inp.dutyNow = 0)

/-- The condition of Disabled to Enabled, the flag aside (spec/45_arbiter_enable_fsm.md R284). -/
def startCond (s : State) : Bool :=
  decide (s.sensor.motorErps < Config.ENABLE_ERPS_MAX) && decide (s.a.iTarget ≠ 0) && !s.inp.brake

/-- `inhibit` (spec/45_arbiter_enable_fsm.md R286). -/
def inhibit (s : State) : Bool :=
  s.inp.brake || decide (s.csr.fault ≠ 0) || s.inp.adminDisable || !s.flags.motorEnabled

/-- c4 STATUS (spec/10_state.md R36): bit 0 is the last of the list. -/
def statusWord (P : Params) (s : State) : Byte :=
  BitVec.ofBool (decide (s.txCount ≠ 0)) ++ BitVec.ofBool s.flags.frameReady
    ++ BitVec.ofBool (decide (P.commLossTicks ≤ s.cnt.commLossCount)) ++ BitVec.ofBool s.flags.cruiseInitPending
    ++ BitVec.ofBool s.flags.calDone ++ BitVec.ofBool s.flags.tsFault ++ BitVec.ofBool s.flags.mbFault
    ++ BitVec.ofBool s.flags.motorEnabled

/-- `c[n]`: the control register of number `n`, zero-extended to 16 bits; none where no register is implemented:
c5 to c7 (spec/10_state.md R31). DESIGN CHOICE: the 14 registers of R31's list are the implemented ones, where
spec/20_memory.md R60 counts 15 of 17 (notes/assumptions/22.md). -/
def csrRead (P : Params) (s : State) (n : Nat) : Option Half :=
  match n with
  | 0 => some (s.csr.mode.setWidth 16)
  | 1 => some (s.csr.param.setWidth 16)
  | 2 => some (s.csr.lights.setWidth 16)
  | 3 => some (s.csr.fault.setWidth 16)
  | 4 => some ((statusWord P s).setWidth 16)
  | 8 => some (s.csr.iMaxAdc.setWidth 16)
  | 9 => some s.csr.pMaxW
  | 10 => some s.csr.wheelPerimeterMm
  | 11 => some (s.csr.maxSpeedKmh.setWidth 16)
  | 12 => some (s.csr.torquePerStepX100.setWidth 16)
  | 13 => some (s.csr.awprThreshold.setWidth 16)
  | 14 => some (s.csr.optFunction.setWidth 16)
  | 15 => some (s.csr.tempMin.setWidth 16)
  | 16 => some (s.csr.tempMax.setWidth 16)
  | _ => none

/-- The level output ports (spec/10_state.md R23); the strobes are `State.out`. -/
structure LevelPorts where
  drvITarget : Nat
  drvDutyTarget : Nat
  drvRampUp : Nat
  drvRampDown : Nat
  motorEnabled : Bool
  faultCode : Byte
  cadenceTicksMin : Nat
  coasterBrakeThr : Nat
  lights : Byte
deriving DecidableEq, Repr

/-- What the level output ports show in a state (spec/10_state.md R23). -/
def levelPorts (s : State) : LevelPorts :=
  { drvITarget := s.drv.iTarget, drvDutyTarget := s.drv.dutyTarget, drvRampUp := s.drv.rampUp,
    drvRampDown := s.drv.rampDown, motorEnabled := s.flags.motorEnabled, faultCode := s.csr.fault,
    cadenceTicksMin := s.sensor.cadenceTicksMin, coasterBrakeThr := s.filt.coasterThr, lights := s.csr.lights }

end Sys2Proof.Machine
end

