-- ==== Sys2Proof/Machine/Arbiter.lean ====
section
/-! DEFINITION. Stage ARBITER: the motor enable state machine, then inhibit or clamp and commit
(spec/45_arbiter_enable_fsm.md). -/

namespace Sys2Proof.Machine

/-- The strobes' defaults (R280). -/
def clearArbiterStrobes (s : State) : State :=
  s.setOut { s.out with pwmEnable := false, pwmDisable := false, dutySeedValid := false, fwOffsetReset := false }

/-- Enabled to Disabled, the clean stop (R283). -/
def disableMotor (s : State) : State :=
  (s.setFlags { s.flags with motorEnabled := false }).setOut { s.out with pwmDisable := true }

/-- Disabled to Enabled (R284). -/
def enableMotor (P : Params) (s : State) : State :=
  ((s.setFlags { s.flags with motorEnabled := true }).setA
      { s.a with rampUp := P.rampUpMin, rampDown := P.rampDownMin }).setOut
    { s.out with dutySeed := P.dutyStartup, dutySeedValid := true, fwOffsetReset := true, pwmEnable := true }

/-- The motor enable state machine: one of R283, R284, R285, chosen by the flag at entry (R282). -/
def enableFsm (P : Params) (s : State) : State :=
  if s.flags.motorEnabled then
    if stopCond s then disableMotor s else s
  else if startCond s then enableMotor P s
  else s

/-- Ceiling, clamps and commit (R287, R288, R289). -/
def commitClamped (P : Params) (s : State) : State :=
  s.setDrv { iTarget := min s.a.iTarget (min s.iMax P.adcIAbsMax), dutyTarget := min s.a.dutyTarget P.dutyMax,
             rampUp := max s.a.rampUp P.rampUpMin, rampDown := max s.a.rampDown P.rampDownMin }

/-- Inhibit or commit (R280, R286). -/
def inhibitOrCommit (P : Params) (s : State) : State := if inhibit s then commitSafe P s else commitClamped P s

/-- ARBITER (R280): the state machine first, then the inhibit test (R281). -/
def arbiter (P : Params) (s : State) : State :=
  (inhibitOrCommit P (enableFsm P (clearArbiterStrobes s))).setStage 7

/-- The instruction ARBITER. -/
def execArbiter (s : State) : Host.Outcome State Fault Refusal := .next (arbiter Config.P s)

end Sys2Proof.Machine
end

