-- ==== Sys2Proof/Machine/Comm.lean ====
section
/-! DEFINITION. Stage COMM and the five frame operations (spec/47_sequencer_host.md R340 to R351). A frame operation
by itself applies its frame; whether the frame is accepted is decided by COMM (notes/assumptions/9.md). -/

namespace Sys2Proof.Machine

/-- The header of every accepted frame (R345). -/
def applyHeader (f : FrameArgs) (s : State) : State :=
  s.setCsr { s.csr with mode := f.mode, param := f.param, lights := f.lights }

/-- The pairs of a payload written to the registers `lo` to `hi` (R347 to R349). -/
def applyPayload (P : Params) (k : MsgId) (lo hi : Nat) (f : FrameArgs) (s : State) : State :=
  s.setCsr (cfgApplyGroup lo hi (P.decodePayload k f.payload) s.csr)

/-- A Hall payload handed to the motor-drive layer (R350, R351; notes/assumptions/17.md). -/
def forwardHall (id : BitVec 1) (f : FrameArgs) (s : State) : State :=
  s.setOut { s.out with hallCfgId := id, hallCfgData := f.payload, hallCfgValid := true }

/-- FRAME.LIMITS (R347). -/
def frameLimits (P : Params) (f : FrameArgs) (s : State) : State := applyPayload P .limits 8 9 f (applyHeader f s)
/-- FRAME.WHEEL_ASSIST (R348). -/
def frameWheelAssist (P : Params) (f : FrameArgs) (s : State) : State :=
  applyPayload P .wheelAssist 10 13 f (applyHeader f s)
/-- FRAME.OPTFN (R349). -/
def frameOptfn (P : Params) (f : FrameArgs) (s : State) : State := applyPayload P .optFn 14 16 f (applyHeader f s)
/-- FRAME.HALL_ANGLES (R350). -/
def frameHallAngles (f : FrameArgs) (s : State) : State := forwardHall 0 f (applyHeader f s)
/-- FRAME.HALL_OFFSETS (R351). -/
def frameHallOffsets (f : FrameArgs) (s : State) : State := forwardHall 1 f (applyHeader f s)

/-- Application of an accepted frame (R344). -/
def applyFrame (P : Params) (k : MsgId) (f : FrameArgs) (s : State) : State :=
  match k with
  | .limits => frameLimits P f s
  | .wheelAssist => frameWheelAssist P f s
  | .optFn => frameOptfn P f s
  | .hallAngles => frameHallAngles f s
  | .hallOffsets => frameHallOffsets f s

/-- `S.frame_ready <- 0`: the frame is consumed (R341). -/
def consumeFrame (s : State) : State := s.setFlags { s.flags with frameReady := false }

/-- The receive attempt, with whether a frame was accepted (R341). -/
def receive (P : Params) (s : State) : State × Bool :=
  if s.flags.frameReady then
    match acceptFrame P (rxFrame s) with
    | .ok (k, f) => (applyFrame P k f (consumeFrame s), true)
    | .error _ => (consumeFrame s, false)
  else (s, false)

/-- The outbound record's fields (R343, spec/30_encoding.md R104); the unconstrained ones are the draws of
number `s.draws` (notes/assumptions/5.md). -/
def txBody (s : State) : TxBody :=
  { start := Config.TX_START
    vbatX1000 := BitVec.ofNat 16 (min s.sensor.vbatX1000 65535)
    ibatX10 := BitVec.ofNat 8 (min s.sensor.ibatX10 255)
    wheelSpeedX10 := BitVec.ofNat 12 (min s.sensor.wheelSpeedX10 4095)
    status4 := Config.freeStatus4 s.draws
    cadenceRpm := BitVec.ofNat 8 s.sensor.cadenceRpm
    brake := s.inp.brake
    fwVersion := Config.freeFwVersion s.draws
    faultCode := s.csr.fault
    tempDiv10 := BitVec.ofNat 8 (min (s.filt.tempX10 / 10) 255)
    duty := s.inp.dutyNow
    motorErps := BitVec.ofNat 16 s.sensor.motorErps
    focAngle := s.inp.focAngle
    fwOffset := s.inp.fwOffset
    telemetry6 := Config.freeTelemetry6 s.draws
    unlisted6 := Config.freeUnlisted6 s.draws }

/-- The send; skipped while the previous record is still draining (R342). -/
def send (P : Params) (s : State) : State :=
  if s.txCount = 0 then
    ((s.setTxRec { body := txBody s, crc := P.crc16 (txImage (txBody s)) }).setTxCount Config.TX_LEN).setDraws
      (s.draws + 1)
  else s

/-- The transport-loss detector (R346). -/
def detectLoss (P : Params) (accepted : Bool) (s : State) : State :=
  if accepted then s.setCnt { s.cnt with commLossCount := 0 }
  else
    let n := min (s.cnt.commLossCount + 1) P.commLossTicks
    let s1 := s.setCnt { s.cnt with commLossCount := n }
    if n = P.commLossTicks then s1.setCsr { s1.csr with mode := 0 } else s1

/-- The exchange of every fourth tick, or nothing; with whether a frame was accepted (R340). -/
def exchange (P : Params) (s : State) : State × Bool :=
  if s.tickMod4 = Config.EXCHANGE_PHASE then
    let r := receive P s
    (send P r.1, r.2)
  else (s, false)

/-- COMM (R340). -/
def comm (P : Params) (s : State) : State :=
  let r := exchange P (s.setOut { s.out with hallCfgValid := false })
  let s1 := detectLoss P r.2 r.1
  (s1.setTickMod4 (s1.tickMod4 + 1)).setStage 0

/-- The instruction FRAME.LIMITS. -/
def execFrameLimits (f : FrameArgs) (s : State) : Host.Outcome State Fault Refusal := .next (frameLimits Config.P f s)
/-- The instruction FRAME.WHEEL_ASSIST. -/
def execFrameWheelAssist (f : FrameArgs) (s : State) : Host.Outcome State Fault Refusal :=
  .next (frameWheelAssist Config.P f s)
/-- The instruction FRAME.OPTFN. -/
def execFrameOptfn (f : FrameArgs) (s : State) : Host.Outcome State Fault Refusal := .next (frameOptfn Config.P f s)
/-- The instruction FRAME.HALL_ANGLES. -/
def execFrameHallAngles (f : FrameArgs) (s : State) : Host.Outcome State Fault Refusal := .next (frameHallAngles f s)
/-- The instruction FRAME.HALL_OFFSETS. -/
def execFrameHallOffsets (f : FrameArgs) (s : State) : Host.Outcome State Fault Refusal :=
  .next (frameHallOffsets f s)
/-- The instruction COMM. -/
def execComm (s : State) : Host.Outcome State Fault Refusal := .next (comm Config.P s)

end Sys2Proof.Machine
end

