-- ==== Sys2Proof/Machine/Law.lean ====
section
/-! DEFINITION. Stage LAW and the laws but Cruise (spec/42_assist_laws.md). A law operation by itself is its own
rule; LAW is what sets it up, selects it by mode and moves the sequencer on (notes/assumptions/18.md). -/

namespace Sys2Proof.Machine

/-- The default tuple (R191). -/
def defaultTuple (P : Params) : DriveTuple :=
  { iTarget := 0, dutyTarget := 0, rampUp := P.rampUpDefault, rampDown := P.rampDownDefault }

/-- The current ceiling of a tick (R192). -/
def currentCeiling (P : Params) (s : State) : Nat :=
  min (min s.csr.iMaxAdc.toNat P.adcIAbsMax) (p2i P s (s.csr.pMaxW.toNat * 100))

/-- `ramp_shape(cad)` (R195). -/
def rampShape (P : Params) (cad : Nat) (s : State) : State :=
  let v := s.sensor.wheelSpeedX10
  s.setA { s.a with
    rampUp := min (lerp v Config.RAMP_SPEED_LO_X10 Config.RAMP_SPEED_HI_X10 P.rampUpDefault P.rampUpMin)
      (lerp cad Config.RAMP_CAD_LO Config.RAMP_CAD_HI P.rampUpDefault P.rampUpMin)
    rampDown := min (lerp v Config.RAMP_SPEED_LO_X10 Config.RAMP_SPEED_HI_X10 P.rampDownDefault P.rampDownMin)
      (lerp cad Config.RAMP_CAD_LO Config.RAMP_CAD_HI P.rampDownDefault P.rampDownMin) }

/-- `set_current(i)` (R197). -/
def setCurrent (P : Params) (i : Nat) (s : State) : State :=
  s.setA { s.a with
    iTarget := min i s.iMax
    dutyTarget := if min i s.iMax ≠ 0 then P.dutyMax else s.a.dutyTarget }

/-- OFF: nothing; the default tuple stands (R199). -/
def lawOff (_p : Byte) (s : State) : State := s

/-- POWER (R200). -/
def lawPower (P : Params) (p : Byte) (s : State) : State :=
  let cad := effCadence P.awprRpmPower s
  let pX100 := (cad * paramValue p * s.sensor.torqueX100) / Config.POWER_DIV
  rampShape P cad (setCurrent P (p2i P s pX100) s)

/-- CADENCE (R202). -/
def lawCadence (P : Params) (p : Byte) (s : State) : State :=
  if s.sensor.cadenceRpm ≠ 0 then
    let pX100 := min (paramValue p * P.cadPowerPerUnitX100) P.cadPowerMaxX100
    rampShape P s.sensor.cadenceRpm (setCurrent P (p2i P s pX100) s)
  else s

/-- TORQUE (R204). -/
def lawTorque (P : Params) (p : Byte) (s : State) : State :=
  let cad := effCadence P.awprRpmTorque s
  if cad ≠ 0 ∧ s.sensor.torqueDelta ≠ 0 then
    rampShape P cad (setCurrent P ((s.sensor.torqueDelta * paramValue p) / Config.TORQUE_DIV) s)
  else s

/-- EMTB (R206). -/
def lawEmtb (P : Params) (p : Byte) (s : State) : State :=
  let cad := effCadence P.awprRpmEmtb s
  if cad ≠ 0 ∧ s.sensor.torqueDelta ≠ 0 ∧ 1 ≤ paramValue p ∧ paramValue p ≤ Config.EMTB_LEVELS then
    rampShape P cad (setCurrent P (lut P (paramValue p) (emtbIndex s)) s)
  else s

/-- WALK (R208). -/
def lawWalk (P : Params) (p : Byte) (s : State) : State :=
  if s.sensor.wheelSpeedX10 < P.walkSpeedMaxX10 then
    s.setA { iTarget := min P.walkICap s.iMax, dutyTarget := min (paramValue p) Config.WALK_DUTY_CEIL,
             rampUp := P.walkRampUp, rampDown := P.rampDownDefault }
  else s

/-- CALIB (R210). -/
def lawCalib (P : Params) (p : Byte) (s : State) : State :=
  s.setA { iTarget := s.iMax, dutyTarget := min (paramValue p) (P.dutyMax - 1),
           rampUp := P.calRampUp, rampDown := P.calRampDown }

/-- The instruction OFF. -/
def execOff (p : Byte) (s : State) : Host.Outcome State Fault Refusal := .next (lawOff p s)
/-- The instruction POWER. -/
def execPower (p : Byte) (s : State) : Host.Outcome State Fault Refusal := .next (lawPower Config.P p s)
/-- The instruction CADENCE. -/
def execCadence (p : Byte) (s : State) : Host.Outcome State Fault Refusal := .next (lawCadence Config.P p s)
/-- The instruction TORQUE. -/
def execTorque (p : Byte) (s : State) : Host.Outcome State Fault Refusal := .next (lawTorque Config.P p s)
/-- The instruction EMTB. -/
def execEmtb (p : Byte) (s : State) : Host.Outcome State Fault Refusal := .next (lawEmtb Config.P p s)
/-- The instruction WALK. -/
def execWalk (p : Byte) (s : State) : Host.Outcome State Fault Refusal := .next (lawWalk Config.P p s)
/-- The instruction CALIB. -/
def execCalib (p : Byte) (s : State) : Host.Outcome State Fault Refusal := .next (lawCalib Config.P p s)

end Sys2Proof.Machine
end

