-- ==== Sys2Proof/Machine/Cruise.lean ====
section
/-! DEFINITION. The Cruise law, a PID speed controller (spec/43_cruise_pid.md), and the stage LAW that dispatches
to all eight laws (spec/42_assist_laws.md R190). -/

namespace Sys2Proof.Machine

/-- Initialisation on (re)entry (R243). -/
def cruiseInit (p : Byte) (s : State) : State :=
  (s.setFlags { s.flags with cruiseInitPending := false }).setPid
    { error := 0, lastError := 0, derivative := 0, output := 0, integral := Config.PID_INT_SEED,
      targetX10 := if p ≠ 0 then paramValue p * 10 else s.sensor.wheelSpeedX10 }

/-- Error (R244). -/
def cruiseError (s : State) : State :=
  s.setPid { s.pid with error := (s.pid.targetX10 : Int) - s.sensor.wheelSpeedX10 }

/-- Integral (R245). -/
def cruiseIntegral (s : State) : State :=
  s.setPid { s.pid with integral := clampInt (s.pid.integral + s.pid.error) 0 Config.PID_INT_MAX }

/-- Derivative and last error (R246). -/
def cruiseDerivative (s : State) : State :=
  s.setPid { s.pid with derivative := s.pid.error - s.pid.lastError, lastError := s.pid.error }

/-- Output (R247). -/
def cruiseOutput (P : Params) (s : State) : State :=
  let raw := P.kp * s.pid.error + Int.tdiv (P.kiNum * s.pid.integral) P.kiDen + P.kd * s.pid.derivative
  s.setPid { s.pid with output := clampInt raw 0 Config.PID_OUT_MAX }

/-- Duty target (R248). -/
def cruiseDuty (P : Params) (s : State) : State :=
  s.setA { s.a with
    dutyTarget := lerp (shiftRight s.pid.output.toNat Config.PID_OUT_SHIFT) 0 Config.PID_MAP_IN_MAX 0 (P.dutyMax - 1) }

/-- Current target and ramps (R249). -/
def cruiseDrive (P : Params) (s : State) : State :=
  s.setA { s.a with iTarget := s.iMax, rampUp := P.cruiseRampUp, rampDown := P.rampDownDefault }

/-- One controller update: R244 to R249 in order. -/
def cruiseUpdate (P : Params) (s : State) : State :=
  cruiseDrive P (cruiseDuty P (cruiseOutput P (cruiseDerivative (cruiseIntegral (cruiseError s)))))

/-- CRUISE (R240): active strictly above the threshold (R241), otherwise no action (R250). -/
def lawCruise (P : Params) (p : Byte) (s : State) : State :=
  if P.cruiseSpeedMinX10 < s.sensor.wheelSpeedX10 then
    cruiseUpdate P (if s.flags.cruiseInitPending then cruiseInit p s else s)
  else s

/-- The instruction CRUISE. -/
def execCruise (p : Byte) (s : State) : Host.Outcome State Fault Refusal := .next (lawCruise Config.P p s)

/-- What LAW does before it dispatches: ceiling, default tuple, re-arming of Cruise
(spec/42_assist_laws.md R190, R191, R192; R242 of this file's spec). -/
def lawPrologue (P : Params) (s : State) : State :=
  let s1 := (s.setIMax (currentCeiling P s)).setA (defaultTuple P)
  if modeOf s.csr.mode ≠ .cruise then s1.setFlags { s1.flags with cruiseInitPending := true } else s1

/-- Exactly one law (spec/42_assist_laws.md R190). -/
def lawDispatch (P : Params) (m : Mode) (p : Byte) (s : State) : State :=
  match m with
  | .off => lawOff p s
  | .power => lawPower P p s
  | .cadence => lawCadence P p s
  | .torque => lawTorque P p s
  | .emtb => lawEmtb P p s
  | .walk => lawWalk P p s
  | .cruise => lawCruise P p s
  | .calib => lawCalib P p s

/-- LAW (spec/42_assist_laws.md R190). -/
def law (P : Params) (s : State) : State :=
  (lawDispatch P (modeOf s.csr.mode) s.csr.param (lawPrologue P s)).setStage 4

/-- The instruction LAW. -/
def execLaw (s : State) : Host.Outcome State Fault Refusal := .next (law Config.P s)

end Sys2Proof.Machine
end

