-- ==== Sys2Proof/Machine/Health.lean ====
section
/-! DEFINITION. Stage HEALTH (spec/46_health_monitor.md): the two fault detectors and the fault code. -/

namespace Sys2Proof.Machine

/-- Motor-blocked detector (R312). While the fault is latched its condition is not looked at. -/
def detectMotorBlocked (s : State) : State :=
  if s.flags.mbFault then
    let n := s.cnt.mbResetCount + 1
    if n = Config.MB_CLEAR_TICKS then clearMotorBlocked s else s.setCnt { s.cnt with mbResetCount := n }
  else if mbCond s then
    let n := s.cnt.mbCount + 1
    if n = Config.MB_LATCH_TICKS then raiseMotorBlocked s else s.setCnt { s.cnt with mbCount := n }
  else s.setCnt { s.cnt with mbCount := 0 }

/-- Torque-sensor-fault detector: a level, recomputed in every tick (R316). -/
def detectTorqueSensor (s : State) : State := s.setFlags { s.flags with tsFault := tsCond s }

/-- The fault code (R318). -/
def updateFaultCode (s : State) : State := s.setCsr { s.csr with fault := faultCode s.flags }

/-- HEALTH (R310). -/
def health (s : State) : State := (updateFaultCode (detectTorqueSensor (detectMotorBlocked s))).setStage 3

/-- The instruction HEALTH. -/
def execHealth (s : State) : Host.Outcome State Fault Refusal := .next (health s)

end Sys2Proof.Machine
end

