-- ==== Sys2Proof/Machine/Overlay.lean ====
section
/-! DEFINITION. Stages OVERLAY and SPEEDLIM and the three overlay operations
(spec/44_overlay_speed_limiter.md). -/

namespace Sys2Proof.Machine

/-- OVL.NONE: nothing (R261). -/
def overlayNone (s : State) : State := s

/-- The throttle's current: the ADC code mapped to 0 to 255, then to 0 to the ceiling (R263). -/
def throttleCurrent (P : Params) (s : State) : Nat :=
  lerp (lerp s.inp.adcAux.toNat P.thrAdcMin P.thrAdcMax 0 255) 0 255 0 s.iMax

/-- OVL.THROTTLE (R263). -/
def overlayThrottle (P : Params) (s : State) : State :=
  if s.a.iTarget < throttleCurrent P s then
    let v := s.sensor.wheelSpeedX10
    s.setA { iTarget := throttleCurrent P s, dutyTarget := P.dutyMax,
             rampUp := lerp v P.thrSpeedLoX10 P.thrSpeedHiX10 P.thrRampUpDefault P.thrRampUpMin,
             rampDown := lerp v P.thrSpeedLoX10 P.thrSpeedHiX10 P.thrRampDownDefault P.thrRampDownMin }
  else s

/-- The temperature filter and conversion (R265). -/
def filterTemp (P : Params) (s : State) : State :=
  let acc := iir s.filt.tempAcc s.inp.adcAux.toNat Config.TEMP_K
  s.setFilt { s.filt with tempAcc := acc, tempX10 := (shiftRight acc Config.TEMP_K * P.tempNum) / P.tempDen }

/-- The derating by temperature; bad limits force 0 (R265). -/
def derateTemp (s : State) : State :=
  s.setA { s.a with
    iTarget :=
      if s.csr.tempMax ≤ s.csr.tempMin then 0
      else lerp s.filt.tempX10 (s.csr.tempMin.toNat * 10) (s.csr.tempMax.toNat * 10) s.a.iTarget 0 }

/-- OVL.TEMP (R265). -/
def overlayTemp (P : Params) (s : State) : State := derateTemp (filterTemp P s)

/-- Exactly one overlay (R260). -/
def overlayDispatch (P : Params) (o : Overlay) (s : State) : State :=
  match o with
  | .none => overlayNone s
  | .throttle => overlayThrottle P s
  | .temp => overlayTemp P s

/-- OVERLAY (R260). -/
def overlay (P : Params) (s : State) : State :=
  (overlayDispatch P (ovlOf (ovlBits s.csr.optFunction)) s).setStage 5

/-- The speed limiter's derating (R268). -/
def limitSpeed (s : State) : State :=
  if s.csr.maxSpeedKmh ≠ 0 then
    let m := s.csr.maxSpeedKmh.toNat * 10
    s.setA { s.a with
      iTarget := lerp s.sensor.wheelSpeedX10 (satSub m Config.SPEED_BAND_X10) (m + Config.SPEED_BAND_X10) s.a.iTarget 0 }
  else s

/-- SPEEDLIM (R268). -/
def speedlim (s : State) : State := (limitSpeed s).setStage 6

/-- The instruction OVL.NONE. -/
def execOvlNone (s : State) : Host.Outcome State Fault Refusal := .next (overlayNone s)
/-- The instruction OVL.THROTTLE. -/
def execOvlThrottle (s : State) : Host.Outcome State Fault Refusal := .next (overlayThrottle Config.P s)
/-- The instruction OVL.TEMP. -/
def execOvlTemp (s : State) : Host.Outcome State Fault Refusal := .next (overlayTemp Config.P s)
/-- The instruction OVERLAY. -/
def execOverlay (s : State) : Host.Outcome State Fault Refusal := .next (overlay Config.P s)
/-- The instruction SPEEDLIM. -/
def execSpeedlim (s : State) : Host.Outcome State Fault Refusal := .next (speedlim s)

end Sys2Proof.Machine
end

