-- ==== Sys2Proof/Machine/Sense.lean ====
section
/-! DEFINITION. Stage SENSE (spec/41_sensor_conditioning.md): one definition per rule, composed in the order of
R160. -/

namespace Sys2Proof.Machine

/-- Battery voltage (R161). -/
def senseVbat (P : Params) (s : State) : State :=
  let acc := iir s.filt.vbatAcc s.inp.adcVbat.toNat P.vbatK
  (s.setFilt { s.filt with vbatAcc := acc }).setSensor
    { s.sensor with vbatX1000 := shiftRight acc P.vbatK * P.vbatMvPerStep }

/-- Battery current (R163). -/
def senseIbat (P : Params) (s : State) : State :=
  s.setSensor { s.sensor with ibatX10 := (s.inp.adcIbatFilt.toNat * P.ibatStepX100) / 10 }

/-- Wheel speed (R167). -/
def senseWheel (P : Params) (s : State) : State :=
  s.setSensor { s.sensor with
    wheelSpeedX10 :=
      if s.inp.wheelTicks = 0 then 0
      else min 65535 ((s.csr.wheelPerimeterMm.toNat * P.wheelNum) / s.inp.wheelTicks.toNat) }

/-- Cadence (R165). -/
def senseCadence (P : Params) (s : State) : State :=
  s.setSensor { s.sensor with
    cadenceRpm := if s.inp.cadenceTicks = 0 then 0 else min 255 (P.cadenceNum / s.inp.cadenceTicks.toNat) }

/-- Cadence minimum-tick threshold, from this tick's wheel speed (R166). -/
def senseTicksMin (P : Params) (s : State) : State :=
  s.setSensor { s.sensor with
    cadenceTicksMin := lerp s.sensor.wheelSpeedX10 P.ctmSpeedLoX10 P.ctmSpeedHiX10 P.ctmTicksLo P.ctmTicksHi }

/-- Motor speed (R168). -/
def senseErps (s : State) : State := s.setSensor { s.sensor with motorErps := s.inp.motorErps.toNat }

/-- During the calibration window (R172). -/
def calibWindow (P : Params) (s : State) : State :=
  let acc := iir s.filt.toffAcc s.inp.adcTorque.toNat P.toffK
  s.setFilt { s.filt with toffAcc := acc, torqueOffset := shiftRight acc P.toffK }

/-- The window-end tick (R173). -/
def calibEnd (P : Params) (s : State) : State :=
  let off := (max 0 ((s.filt.torqueOffset : Int) + P.calCorrection)).toNat
  (s.setFilt { s.filt with torqueOffset := off, coasterThr := satSub off P.coasterConst }).setFlags
    { s.flags with calDone := true }

/-- Torque offset calibration: the case of R170, with R171 and R174 changing nothing. -/
def calibrate (P : Params) (s : State) : State :=
  if s.cnt.calTicks < P.calStartTicks then s
  else if s.cnt.calTicks < P.calEndTicks then calibWindow P s
  else if s.cnt.calTicks = P.calEndTicks then calibEnd P s
  else s

/-- The count of ticks since reset, saturating (R177). -/
def countCalTick (P : Params) (s : State) : State :=
  s.setCnt { s.cnt with calTicks := min (s.cnt.calTicks + 1) (P.calEndTicks + 1) }

/-- Torque reading and delta, against the offset as just updated (R175). -/
def senseTorque (s : State) : State :=
  s.setSensor { s.sensor with
    torqueAdc := s.inp.adcTorque.toNat, torqueDelta := satSub s.inp.adcTorque.toNat s.filt.torqueOffset }

/-- Torque in physical units (R176). -/
def senseTorquePhys (s : State) : State :=
  s.setSensor { s.sensor with torqueX100 := s.sensor.torqueDelta * s.csr.torquePerStepX100.toNat }

/-- SENSE (R160). -/
def sense (P : Params) (s : State) : State :=
  let s := senseIbat P (senseVbat P s)
  let s := senseTicksMin P (senseCadence P (senseWheel P s))
  let s := countCalTick P (calibrate P (senseErps s))
  (senseTorquePhys (senseTorque s)).setStage 2

/-- The instruction SENSE. -/
def execSense (s : State) : Host.Outcome State Fault Refusal := .next (sense Config.P s)

end Sys2Proof.Machine
end

