-- ==== Sys2Proof/Machine/Sequencer.lean ====
section
/-! DEFINITION. The sequencer (spec/47_sequencer_host.md R330 to R333), the agents that act between ticks
(spec/20_memory.md R70, R72, spec/70_reset_and_hazards.md R400), where codes are fetched, and a whole tick. -/

namespace Sys2Proof.Machine

/-- Every strobe 0: a strobe is 1 in the tick that writes it and in no other (spec/00_scope.md R13;
notes/assumptions/4.md). -/
def clearStrobes (s : State) : State :=
  s.setOut { s.out with pwmEnable := false, pwmDisable := false, dutySeedValid := false, fwOffsetReset := false,
                        hallCfgValid := false }

/-- IDLE: on a `tick` event the inputs are sampled and the tick begins; otherwise the block waits, and nothing
changes (R330, spec/10_state.md R22). -/
def idle (s : State) : State :=
  match s.env with
  | .tick inp :: es => (clearStrobes ((s.setEnv es).setInp inp)).setStage 1
  | .rxDeliver _ :: _ => s
  | .txDrain :: _ => s
  | .rst :: _ => s
  | [] => s

/-- The instruction IDLE. -/
def execIdle (s : State) : Host.Outcome State Fault Refusal := .next (idle s)

/-- `RxDeliver(f)`: enabled only when no frame is pending, otherwise the frame is lost (spec/20_memory.md R70). -/
def rxDeliver (f : Vector Byte 13) (s : State) : State :=
  if s.flags.frameReady then s
  else (storeFrame f s).setFlags { s.flags with frameReady := true }

/-- `TxDrain`: enabled only while bytes are left; the next byte leaves, and the record is not written
(spec/20_memory.md R72). -/
def txDrain (s : State) : State :=
  if s.txCount ≠ 0 then (s.setTxSent (nextTxByte s)).setTxCount (s.txCount - 1) else s

/-- The `rst` event: the reset state; what is still to come from outside, and the count of draws, are not the
block's (spec/70_reset_and_hazards.md R400; notes/assumptions/14.md). -/
def powerOnReset (P : Params) (s : State) : State :=
  ((State.resetWith P).setEnv s.env).setDraws s.draws

/-- The effect of an event that is not a tick. -/
def agentEffect (P : Params) (e : Event) (s : State) : State :=
  match e with
  | .tick _ => s
  | .rxDeliver f => rxDeliver f s
  | .txDrain => txDrain s
  | .rst => powerOnReset P s

/-- The agent event that acts next: the first of `env`, between ticks only, ticks being the core's
(spec/20_memory.md R73; notes/assumptions/2.md). -/
def dueAgent (s : State) : Option Event :=
  if s.stage = 0 then
    match s.env with
    | .tick _ :: _ => none
    | .rxDeliver f :: _ => some (.rxDeliver f)
    | .txDrain :: _ => some .txDrain
    | .rst :: _ => some .rst
    | [] => none
  else none

/-- One agent step: the event is taken off the list and has its effect. -/
def agentStep (P : Params) (e : Event) (s : State) : State := agentEffect P e (s.setEnv s.env.tail)

/-- The stage operation the sequencer fetches (spec/30_encoding.md R93, R96). -/
def fetch (s : State) : Instr := stageInstr s.stage

/-- The command word LAW decodes (spec/30_encoding.md R91). -/
def heldCommand (s : State) : Half := s.csr.mode ++ s.csr.param

/-- One whole tick (R331): the eight stage operations in order. -/
def tick (P : Params) (inp : Inputs) (s : State) : State :=
  let s := (clearStrobes (s.setInp inp)).setStage 1
  comm P (arbiter P (speedlim (overlay P (law P (health (sense P s))))))

/-- The events from the first tick on. -/
def fromNextTick : List Event → List Event
  | [] => []
  | .tick inp :: es => .tick inp :: es
  | .rxDeliver _ :: es => fromNextTick es
  | .txDrain :: es => fromNextTick es
  | .rst :: es => fromNextTick es

/-- A code put where the block fetches it, with all that the very next step needs to run it: a stage code in
`S.stage`; a command word in c0 and c1 at stage LAW; an overlay code in c14[1:0] at stage OVERLAY; a frame in the
receive buffer at the exchange of stage COMM, with the CRC it needs to be accepted (notes/assumptions/9.md). -/
def placeCode (P : Params) (c : Code) (s : State) : State :=
  match c with
  | .stage b => (s.setStage b).setEnv (if b = 0 then fromNextTick s.env else s.env)
  | .cmd w => (s.setCsr { s.csr with mode := w.extractLsb' 8 8, param := w.extractLsb' 0 8 }).setStage 3
  | .ovl b => (s.setCsr { s.csr with optFunction := s.csr.optFunction.extractLsb' 2 6 ++ b }).setStage 4
  | .rxf f =>
    (((storeFrame (sealFrame P f) s).setFlags { s.flags with frameReady := true }).setTickMod4
      Config.EXCHANGE_PHASE).setStage 7

end Sys2Proof.Machine
end

