-- ==== Sys2Proof/Machine/Dispatch.lean ====
section
/-! DEFINITION. The meaning of every instruction: one arm per constructor. -/

namespace Sys2Proof.Machine

/-- What an instruction does to a state. -/
def exec (i : Instr) (s : State) : Host.Outcome State Fault Refusal :=
  match i with
  | .idle => Sys2Proof.Machine.execIdle s
  | .sense => Sys2Proof.Machine.execSense s
  | .health => Sys2Proof.Machine.execHealth s
  | .law => Sys2Proof.Machine.execLaw s
  | .overlay => Sys2Proof.Machine.execOverlay s
  | .speedlim => Sys2Proof.Machine.execSpeedlim s
  | .arbiter => Sys2Proof.Machine.execArbiter s
  | .comm => Sys2Proof.Machine.execComm s
  | .off p => Sys2Proof.Machine.execOff p s
  | .power p => Sys2Proof.Machine.execPower p s
  | .cadence p => Sys2Proof.Machine.execCadence p s
  | .torque p => Sys2Proof.Machine.execTorque p s
  | .emtb p => Sys2Proof.Machine.execEmtb p s
  | .walk p => Sys2Proof.Machine.execWalk p s
  | .cruise p => Sys2Proof.Machine.execCruise p s
  | .calib p => Sys2Proof.Machine.execCalib p s
  | .ovlNone => Sys2Proof.Machine.execOvlNone s
  | .ovlThrottle => Sys2Proof.Machine.execOvlThrottle s
  | .ovlTemp => Sys2Proof.Machine.execOvlTemp s
  | .frameLimits f => Sys2Proof.Machine.execFrameLimits f s
  | .frameWheelAssist f => Sys2Proof.Machine.execFrameWheelAssist f s
  | .frameOptfn f => Sys2Proof.Machine.execFrameOptfn f s
  | .frameHallAngles f => Sys2Proof.Machine.execFrameHallAngles f s
  | .frameHallOffsets f => Sys2Proof.Machine.execFrameHallOffsets f s

end Sys2Proof.Machine
end

