-- ==== Sys2Proof/Machine/Step.lean ====
section
/-! DEFINITION. One step: an agent's step when one is due between ticks, else the stage operation the sequencer
holds (spec/00_scope.md R7, spec/20_memory.md R73; notes/assumptions/1.md). -/

namespace Sys2Proof.Machine

/-- One step of the machine. -/
def step (s : State) : Host.Outcome State Fault Refusal :=
  match dueAgent s with
  | some e => .next (agentStep Config.P e s)
  | none => exec (fetch s) s

/-- `s` with the instruction of a table word stored where the block fetches it, so that the next step runs it
(notes/assumptions/2.md, 9.md, 10.md). -/
def State.withFetchWord (s : State) (nbits w : Nat) : State :=
  match tableCode nbits w with
  | some c => placeCode Config.P c s
  | none => s

end Sys2Proof.Machine
end

