-- ==== Sys2Proof/Safety.lean ====
section
/-! DEFINITION. What counts as a safe state: the spec's invariants in the terms statements use
(spec/10_state.md R24, R48; spec/45_arbiter_enable_fsm.md R290; spec/43_cruise_pid.md R251). Each holds at reset and
is kept by every step, so each speaks of every stage, not only of the end of a tick. -/

namespace Sys2Proof.Safety
open Sys2Proof.Machine

/-- The RX space has its canonical form. -/
def MemoryCanonical (s : State) : Prop := Memory.wf s.rxBuf = true

/-- The integral and the output of the Cruise controller are within [0, 1000] (spec/43_cruise_pid.md R251). -/
def PidBounded (s : State) : Prop :=
  0 ≤ s.pid.integral ∧ s.pid.integral ≤ 1000 ∧ 0 ≤ s.pid.output ∧ s.pid.output ≤ 1000

/-- The committed duty and ramps are within the configured limits (spec/10_state.md R48 items 3 and 4). -/
def DriveLimits (P : Params) (s : State) : Prop :=
  s.drv.dutyTarget ≤ P.dutyMax ∧ P.rampUpMin ≤ s.drv.rampUp ∧ P.rampDownMin ≤ s.drv.rampDown

/-- The stages between LAW and the end of COMM, where `S.i_max` belongs to the tick in progress. -/
def LawHasRun (s : State) : Prop := 4 ≤ s.stage.toNat

/-- The stages from ARBITER to the next LAW, where the committed tuple is the one made under `S.i_max`. -/
def CommitIsCurrent (s : State) : Prop := s.stage.toNat ≤ 3 ∨ s.stage.toNat = 7

/-- The current bounds (spec/10_state.md R48 item 2, spec/44_overlay_speed_limiter.md R270): from LAW on the
request is at most the ceiling, and the ceiling at most the hardware-configured and the power-derived maximum of
this tick; what is committed is at most the ceiling it was committed under. -/
structure CurrentBounded (P : Params) (s : State) : Prop where
  request : LawHasRun s → s.a.iTarget ≤ s.iMax
  ceiling : LawHasRun s → s.iMax ≤ s.csr.iMaxAdc.toNat ∧ s.iMax ≤ p2i P s (s.csr.pMaxW.toNat * 100)
  absolute : s.iMax ≤ P.adcIAbsMax ∧ s.drv.iTarget ≤ P.adcIAbsMax
  committed : CommitIsCurrent s → s.drv.iTarget ≤ s.iMax

/-- From ARBITER until the next tick begins, brake, a fault, administrative disable or a disabled motor mean the
safe tuple is committed (spec/45_arbiter_enable_fsm.md R286, R290). -/
def InhibitedIsSafe (P : Params) (s : State) : Prop :=
  s.stage = 7 ∨ s.stage = 0 →
    s.inp.brake = true ∨ s.csr.fault ≠ 0 ∨ s.inp.adminDisable = true ∨ s.flags.motorEnabled = false →
      s.drv = { iTarget := 0, dutyTarget := 0, rampUp := P.rampUpDefault, rampDown := P.rampDownMin }

/-- c3 is the view of the two latches (spec/46_health_monitor.md R318). -/
def FaultCodeAgrees (s : State) : Prop :=
  s.csr.fault = if s.flags.mbFault then 1 else if s.flags.tsFault then 2 else 0

/-- The values of a tuple fit their registers (spec/10_state.md R26, R27). -/
def TupleFits (t : DriveTuple) : Prop :=
  t.iTarget ≤ 255 ∧ t.dutyTarget ≤ 255 ∧ t.rampUp ≤ 65535 ∧ t.rampDown ≤ 65535

/-- Every register is within the bound its table gives (spec/10_state.md R24 to R27, R42 to R46;
spec/40_arith_primitives.md R131). The ramps of `A` and `DRV` are so because the ramp parameters are, some of them by
an upper end that the spec does not print (notes/assumptions/7.md). -/
structure WithinWidths (P : Params) (s : State) : Prop where
  vbatX1000 : s.sensor.vbatX1000 ≤ 1023 * 255
  ibatX10 : s.sensor.ibatX10 ≤ 26086
  torqueAdc : s.sensor.torqueAdc ≤ 1023
  torqueDelta : s.sensor.torqueDelta ≤ 1023
  torqueX100 : s.sensor.torqueX100 ≤ 1023 * 255
  cadenceRpm : s.sensor.cadenceRpm ≤ 255
  wheelSpeedX10 : s.sensor.wheelSpeedX10 ≤ 65535
  motorErps : s.sensor.motorErps ≤ 65535
  cadenceTicksMin : s.sensor.cadenceTicksMin ≤ 65535
  iMax : s.iMax ≤ 255
  assist : TupleFits s.a
  drive : TupleFits s.drv
  pidError : -65535 ≤ s.pid.error ∧ s.pid.error ≤ 65535
  pidLastError : -65535 ≤ s.pid.lastError ∧ s.pid.lastError ≤ 65535
  pidDerivative : -131070 ≤ s.pid.derivative ∧ s.pid.derivative ≤ 131070
  pidTarget : s.pid.targetX10 ≤ 65535
  vbatAcc : s.filt.vbatAcc ≤ 1023 * 2 ^ P.vbatK
  toffAcc : s.filt.toffAcc ≤ 1023 * 2 ^ P.toffK
  torqueOffset : s.filt.torqueOffset ≤ 2046
  offsetUncorrected : s.cnt.calTicks ≤ P.calEndTicks → s.filt.torqueOffset ≤ 1023
  coasterThr : s.filt.coasterThr ≤ 2046
  tempAcc : s.filt.tempAcc ≤ 1023 * 8
  tempX10 : s.filt.tempX10 ≤ 1023 * 255
  calTicks : s.cnt.calTicks ≤ P.calEndTicks + 1
  mbCount : s.cnt.mbCount < 10
  mbResetCount : s.cnt.mbResetCount < 100
  commLossCount : s.cnt.commLossCount ≤ P.commLossTicks
  txCount : s.txCount ≤ 29
  dutySeed : s.out.dutySeed ≤ 255
  pidIntegralAndOutput : PidBounded s

/-- The tuple a current-controlled law leaves when it acts with current `i` and cadence `cad`: the current clamped to
the ceiling, the duty at its maximum when a current is requested, both ramps shaped over wheel speed and cadence
(spec/42_assist_laws.md R195, R197). -/
def currentTuple (P : Params) (i cad : Nat) (s : State) : DriveTuple :=
  { iTarget := min i s.iMax
    dutyTarget := if min i s.iMax = 0 then s.a.dutyTarget else P.dutyMax
    rampUp := min (lerp s.sensor.wheelSpeedX10 40 200 P.rampUpDefault P.rampUpMin)
      (lerp cad 20 70 P.rampUpDefault P.rampUpMin)
    rampDown := min (lerp s.sensor.wheelSpeedX10 40 200 P.rampDownDefault P.rampDownMin)
      (lerp cad 20 70 P.rampDownDefault P.rampDownMin) }

/-- Whether a frame is acceptable (spec/30_encoding.md R101): start byte, CRC of the first eleven bytes, message-ID. -/
def Acceptable (P : Params) (f : Vector Byte 13) : Prop :=
  f[0] = 0x59 ∧ P.crc16 (f.toList.take 11) = f[12] ++ f[11] ∧ f[1].toNat ≤ 4

/-- Two states that differ at most in what the host has sent or fetched: the receive buffer and its flag, the
record in flight, its count and the byte last sent, the exchange phase, the loss count, the draws and the events to come. -/
def SameButTransport (s t : State) : Prop :=
  s.stage = t.stage ∧ s.sensor = t.sensor ∧ s.a = t.a ∧ s.drv = t.drv ∧ s.iMax = t.iMax ∧ s.csr = t.csr ∧
    s.pid = t.pid ∧ s.filt = t.filt ∧ s.inp = t.inp ∧ s.out = t.out ∧
    { s.flags with frameReady := t.flags.frameReady } = t.flags ∧
    { s.cnt with commLossCount := t.cnt.commLossCount } = t.cnt

/-- All of it: the machine's invariant. -/
structure Inv (s : State) : Prop where
  memory : MemoryCanonical s
  pid : PidBounded s
  drive : DriveLimits Config.P s
  current : CurrentBounded Config.P s
  inhibited : InhibitedIsSafe Config.P s
  faultCode : FaultCodeAgrees s
  widths : WithinWidths Config.P s

end Sys2Proof.Safety
end

