-- ==== Sys2Proof/WellFormed.lean ====
section
/-! DEFINITION. When an instruction is well formed. Every operand field is as wide as its encoding, so the one
check is the frame's integrity (spec/30_encoding.md R101): the CRC bytes are the CRC of the other eleven. -/

namespace Sys2Proof

/-- The CRC bytes of a frame's fields are those the assembler computes (spec/30_encoding.md R101, R117). -/
def frameWellFormed (P : Params) (k : MsgId) (a : FrameArgs) : Bool :=
  decide (P.crc16 (crcCovered (frameBytes k a)) = u16le a.crcLo a.crcHi)

/-- An instruction is well formed when its code is one the block executes. -/
def Instr.wellFormed (P : Params) : Instr → Bool
  | .idle => true
  | .sense => true
  | .health => true
  | .law => true
  | .overlay => true
  | .speedlim => true
  | .arbiter => true
  | .comm => true
  | .off _ => true
  | .power _ => true
  | .cadence _ => true
  | .torque _ => true
  | .emtb _ => true
  | .walk _ => true
  | .cruise _ => true
  | .calib _ => true
  | .ovlNone => true
  | .ovlThrottle => true
  | .ovlTemp => true
  | .frameLimits f => frameWellFormed P .limits f
  | .frameWheelAssist f => frameWellFormed P .wheelAssist f
  | .frameOptfn f => frameWellFormed P .optFn f
  | .frameHallAngles f => frameWellFormed P .hallAngles f
  | .frameHallOffsets f => frameWellFormed P .hallOffsets f

end Sys2Proof
end

