-- ==== Sys2Proof/Certificates/Slice0/Obligations.lean ====
section
/-! DEFINITION. The statements for the provers. `Config.P` is the implementation's configuration record, of which
nothing is known but its legal ranges, so every statement holds of every legal configuration. -/

open Sys2Proof Sys2Proof.Machine Sys2Proof.Safety

/-! ### Encodings -/

/-- Every instruction, with every operand at every value, is what its own table word decodes to
(spec/30_encoding.md R90 to R94, R100, R102). The bit numbering of a table word is the host's (log entry 10). -/
def Obligations.DecodeEncodeAgree : Prop :=
  ∀ i : Instr, decodeTableWord (codeWord (encode i)).1 (codeWord (encode i)).2 = some i

/-- A frame is accepted as a frame operation exactly when it is that operation's encoding and its CRC is right
(spec/30_encoding.md R100 to R102, R117). -/
def Obligations.AcceptedFramesAreEncodings : Prop :=
  ∀ (P : Params) (f : Vector Byte 13) (k : MsgId) (a : FrameArgs),
    acceptFrame P f = .ok (k, a) ↔ encode (frameInstr k a) = .rxf f ∧ (frameInstr k a).wellFormed P = true

/-- `accept(f)` holds exactly when the start byte, the CRC and the message-ID are right; a frame that is not accepted
is dropped whole: COMM does what it does with no frame pending (spec/30_encoding.md R101). -/
def Obligations.FrameAcceptance : Prop :=
  (∀ (P : Params) (f : Vector Byte 13),
    (∃ r, acceptFrame P f = .ok r) ↔
      f[0] = 0x59 ∧ P.crc16 (f.toList.take 11) = f[12] ++ f[11] ∧ f[1].toNat ≤ 4) ∧
  ∀ s : State, s.tickMod4 = 3 → ¬ Acceptable Config.P (rxFrame s) →
    exec .comm s = exec .comm (s.setFlags { s.flags with frameReady := false })

/-- Modes 8 to 255 decode to OFF, execute in LAW exactly as mode 0 does, and arm the torque-sensor fault no more than
mode 0 does; the code stays in c0 (spec/42_assist_laws.md R212, spec/30_encoding.md R92). -/
def Obligations.ReservedModesActAsOff : Prop :=
  ∀ (m : Byte) (s : State), 8 ≤ m.toNat →
    (∀ p, decode (.cmd (m ++ p)) = .ok (.off p)) ∧
    (∃ t, exec .law (s.setCsr { s.csr with mode := 0 }) = .next t ∧
      exec .law (s.setCsr { s.csr with mode := m }) = .next (t.setCsr { t.csr with mode := m }) ∧
      t.flags.cruiseInitPending = true) ∧
    ∃ t, exec .health (s.setCsr { s.csr with mode := m }) = .next t ∧ t.flags.tsFault = false ∧ t.csr.mode = m

/-- Words written out from the encoding tables decode to the operations they stand for: stage codes 0b011 and 0b111,
`POWER 100` = 01 64, `CRUISE 25` = 06 19, `RSVD 0x2A, 0` = 2A 00, overlay codes 0b01 and 0b11, the frame of vector V80
(spec/30_encoding.md R91 to R94, R100, R102, R115). -/
def Obligations.DecodeSampleWords : Prop :=
  decode (.stage 0b011) = .ok .law ∧ decode (.stage 0b111) = .ok .comm ∧
  decode (.cmd 0x0164) = .ok (.power 100) ∧ decode (.cmd 0x0619) = .ok (.cruise 25) ∧
  decode (.cmd 0x2A00) = .ok (.off 0) ∧
  decode (.ovl 0b01) = .ok .ovlThrottle ∧ decode (.ovl 0b11) = .ok .ovlNone ∧
  decode (.rxf #v[0x59, 0x01, 0x01, 0x64, 0x00, 0x34, 0x08, 0x19, 0x43, 0x00, 0x00, 0xBE, 0x3E])
    = .ok (.frameWheelAssist
        { mode := 1, param := 100, lights := 0, crcLo := 0xBE, crcHi := 0x3E,
          payload := { b0 := 0x34, b1 := 0x08, b2 := 0x19, b3 := 0x43, b4 := 0x00, b5 := 0x00 } })

/-! ### Steps -/

/-- When no agent's event is due, a step is exactly the operation the stage code stands for
(spec/30_encoding.md R93, R96). That a step is one stage operation, and an agent's event a step of its own, is log
entry 1. -/
def Obligations.StepRunsFetchedOperation : Prop :=
  ∀ s : State, (s.stage ≠ 0 ∨ s.env = [] ∨ ∃ inp es, s.env = .tick inp :: es) →
    ∃ i, decode (.stage s.stage) = .ok i ∧ step s = exec i s

/-- LAW: the ceiling of this tick, the default tuple, the re-arming of Cruise, then exactly the operation the command
word decodes to, then stage 4 (spec/42_assist_laws.md R190, R191, R192). -/
def Obligations.LawExecutesCommandWord : Prop :=
  ∀ s : State, ∃ i t, decode (.cmd (s.csr.mode ++ s.csr.param)) = .ok i ∧
    exec i
      (((s.setIMax (min (min s.csr.iMaxAdc.toNat Config.P.adcIAbsMax) (p2i Config.P s (s.csr.pMaxW.toNat * 100)))).setA
        { iTarget := 0, dutyTarget := 0, rampUp := Config.P.rampUpDefault, rampDown := Config.P.rampDownDefault }).setFlags
        { s.flags with
          cruiseInitPending := if modeOf s.csr.mode = .cruise then s.flags.cruiseInitPending else true }) = .next t ∧
    exec .law s = .next (t.setStage 4)

/-- OVERLAY: exactly the operation the low two bits of c14 decode to, then stage 5 (spec/44_overlay_speed_limiter.md R260). -/
def Obligations.OverlayExecutesOverlayCode : Prop :=
  ∀ s : State, ∃ i t, decode (.ovl (s.csr.optFunction.extractLsb' 0 2)) = .ok i ∧ exec i s = .next t ∧
    exec .overlay s = .next (t.setStage 5)

/-- COMM at an exchange with an acceptable frame pending: the flag is cleared, the frame's operation is executed, and
only then come the send (skipped while bytes are in flight), the clearing of the loss count and the next stage
(spec/47_sequencer_host.md R340, R341, R344, R346, R366 item 4 of spec/60_exceptions.md). -/
def Obligations.CommExecutesAcceptedFrame : Prop :=
  ∀ s : State, s.tickMod4 = 3 → s.flags.frameReady = true → Acceptable Config.P (rxFrame s) →
    ∃ i u t, decode (.rxf (rxFrame s)) = .ok i ∧
      exec i ((s.setFlags { s.flags with frameReady := false }).setOut { s.out with hallCfgValid := false }) = .next u ∧
      exec .comm s = .next t ∧
      t.csr = u.csr ∧ t.out = u.out ∧ t.flags = { s.flags with frameReady := false } ∧
      t.cnt = { s.cnt with commLossCount := 0 } ∧ t.tickMod4 = 0 ∧ t.stage = 0 ∧
      (s.txCount ≠ 0 → t.txRec = s.txRec ∧ t.txCount = s.txCount) ∧
      (s.txCount = 0 → t.txCount = 29 ∧ t.txRec.body = txBody u) ∧
      ∀ k, t.rxByte k = s.rxByte k

/-- IDLE waits while no tick has come, changing nothing; on a tick the ports are sampled and the stage becomes SENSE
(spec/47_sequencer_host.md R330, spec/10_state.md R22). That the event is taken off the model's list, and that the
strobes of the last tick end here, are log entries 2 and 4. -/
def Obligations.IdleWaitsOrSamples : Prop :=
  ∀ s : State,
    ((∀ inp es, s.env ≠ .tick inp :: es) → exec .idle s = .next s) ∧
    ∀ inp es, s.env = .tick inp :: es → ∃ t, exec .idle s = .next t ∧
      t = (((s.setEnv es).setInp inp).setOut t.out).setStage 1 ∧
      t.out = { s.out with pwmEnable := false, pwmDisable := false, dutySeedValid := false, fwOffsetReset := false,
                           hallCfgValid := false } ∧
      ∀ k, t.rxByte k = s.rxByte k

/-- Every operation advances the stage by one, modulo 8, but for an IDLE still waiting; an agent's event leaves the
stage at IDLE. Nothing else changes the stage (spec/47_sequencer_host.md R332, R333). Waiting and the agents' steps are
log entries 1 and 2. -/
def Obligations.StageAdvances : Prop :=
  ∀ s t : State, step s = .next t →
    (s.stage ≠ 0 → t.stage = s.stage + 1) ∧
    (s.stage = 0 → (∃ inp es, s.env = .tick inp :: es) → t.stage = 1) ∧
    (s.stage = 0 → (∀ inp es, s.env ≠ .tick inp :: es) → t.stage = 0)

/-- Nothing the block executes can stop it: every step, and every operation, answers a next state
(spec/30_encoding.md R106, spec/60_exceptions.md R360). -/
def Obligations.NothingStopsTheMachine : Prop :=
  (∀ s : State, ∃ t, step s = .next t) ∧ ∀ (i : Instr) (s : State), ∃ t, exec i s = .next t

/-- One tick is the eight operations in code order, each reading the state the previous one left, on the sample taken
when the tick began (spec/47_sequencer_host.md R331). That the tick is eight steps of the machine, where the spec calls
it one, is log entry 1; that the tick comes off a list of events is log entry 2. -/
def Obligations.TickIsEightSteps : Prop :=
  ∀ (s : State) (inp : Inputs) (es : List Event), s.stage = 0 → s.env = .tick inp :: es →
    ∃ s1 s2 s3 s4 s5 s6 s7 s8 : State,
      exec .idle s = .next s1 ∧ exec .sense s1 = .next s2 ∧ exec .health s2 = .next s3 ∧ exec .law s3 = .next s4 ∧
      exec .overlay s4 = .next s5 ∧ exec .speedlim s5 = .next s6 ∧ exec .arbiter s6 = .next s7 ∧
      exec .comm s7 = .next s8 ∧
      s1.inp = inp ∧ s8.inp = inp ∧ s8.env = es ∧ s8.stage = 0 ∧ s8.tickMod4 = s.tickMod4 + 1 ∧
      core.run 8 s = .next s8

/-- `RxDeliver(f)`: with no frame pending, all 13 bytes and the flag in one step; with one pending, the frame is lost
(spec/20_memory.md R70). `TxDrain`: one byte leaves while any is left; the record is not written (R72). With n bytes left
it is byte 29 - n of the frame: the start byte first, then what the CRC covers, then the CRC, low byte first, so 29 drains
send the frame in wire order (spec/20_memory.md R65, spec/30_encoding.md R104). That an event that finds its agent without
a step still uses up its place is log entry 13; the bytes between start and CRC are free, log entry 6; that State shows
the byte last sent is log entry 24. -/
def Obligations.TransportAgentsStep : Prop :=
  (∀ (s : State) (f : Vector Byte 13) (es : List Event), s.stage = 0 → s.env = .rxDeliver f :: es → MemoryCanonical s →
    (s.flags.frameReady = false → ∃ t, step s = .next t ∧
      t = ((s.setEnv es).setRxBuf t.rxBuf).setFlags { s.flags with frameReady := true } ∧
      (∀ (k : Nat) (h : k < 13), t.rxByte k = f[k]) ∧ (∀ k, 13 ≤ k → t.rxByte k = s.rxByte k)) ∧
    (s.flags.frameReady = true → step s = .next (s.setEnv es))) ∧
  (∀ (s : State) (es : List Event), s.stage = 0 → s.env = .txDrain :: es →
    (s.txCount ≠ 0 → ∃ b, step s = .next (((s.setEnv es).setTxCount (s.txCount - 1)).setTxSent b) ∧
      (s.txCount = 29 → b = some s.txRec.body.start) ∧
      (s.txCount ≤ 29 → b = (txImage s.txRec.body ++
        [s.txRec.crc.extractLsb' 0 8, s.txRec.crc.extractLsb' 8 8])[29 - s.txCount]?) ∧
      (s.txCount = 2 → b = some (s.txRec.crc.extractLsb' 0 8)) ∧
      (s.txCount = 1 → b = some (s.txRec.crc.extractLsb' 8 8))) ∧
    (s.txCount = 0 → step s = .next (s.setEnv es))) ∧
  ∀ (s : State) (es : List Event) (k : Nat), s.stage = 0 → s.env = List.replicate 29 .txDrain ++ es → s.txCount = 29 →
    k < 29 → ∃ t b, core.run (k + 1) s = .next t ∧ t.txSent = some b ∧ (txFrame s.txRec)[k]? = some b ∧
      t.txCount = 28 - k ∧ t.txRec = s.txRec

/-- The `rst` event between ticks gives the reset state (spec/70_reset_and_hazards.md R400, R402). That the events to
come and the count of draws outlive it is the model's choice (log entry 14), and that the byte last sent does not (log
entry 24). -/
def Obligations.RstStep : Prop :=
  ∀ (s : State) (es : List Event), s.stage = 0 → s.env = .rst :: es →
    step s = .next ((State.reset.setEnv es).setDraws s.draws)

/-! ### Reset and views -/

/-- What reset leaves (spec/70_reset_and_hazards.md R400), field by field. -/
def Obligations.ResetValues : Prop :=
  let s := State.reset
  s.stage = 0 ∧ s.tickMod4 = 0 ∧
  s.csr.mode = 0 ∧ s.csr.param = 0 ∧ s.csr.lights = 0 ∧ s.csr.fault = 0 ∧ s.csr.iMaxAdc = 0 ∧ s.csr.pMaxW = 0 ∧
  s.csr.wheelPerimeterMm = 0 ∧ s.csr.maxSpeedKmh = 0 ∧ s.csr.torquePerStepX100 = 0 ∧ s.csr.awprThreshold = 0 ∧
  s.csr.optFunction = 0 ∧ s.csr.tempMin = 0 ∧ s.csr.tempMax = 0 ∧ csrRead Config.P s 4 = some 0x10 ∧
  s.sensor = { vbatX1000 := 0, ibatX10 := 0, torqueAdc := 0, torqueDelta := 0, torqueX100 := 0, cadenceRpm := 0,
               wheelSpeedX10 := 0, motorErps := 0, cadenceTicksMin := Config.P.ctmTicksLo } ∧
  s.a = { iTarget := 0, dutyTarget := 0, rampUp := Config.P.rampUpDefault, rampDown := Config.P.rampDownDefault } ∧
  s.drv = { iTarget := 0, dutyTarget := 0, rampUp := Config.P.rampUpDefault, rampDown := Config.P.rampDownMin } ∧
  s.iMax = 0 ∧
  s.flags = { motorEnabled := false, mbFault := false, tsFault := false, cruiseInitPending := true, calDone := false,
              frameReady := false } ∧
  s.pid = { error := 0, lastError := 0, integral := 0, derivative := 0, output := 0, targetX10 := 0 } ∧
  s.filt = { vbatAcc := 0, toffAcc := Config.P.toffInit * 2 ^ Config.P.toffK, torqueOffset := Config.P.toffInit,
             coasterThr := 0, tempAcc := 0, tempX10 := 0 } ∧
  s.cnt = { calTicks := 0, mbCount := 0, mbResetCount := 0, commLossCount := 0 } ∧
  (∀ k, k < 13 → s.rxByte k = 0) ∧ s.txCount = 0 ∧ s.txRec.crc = 0 ∧
  s.txRec.body = { start := 0, vbatX1000 := 0, ibatX10 := 0, wheelSpeedX10 := 0, status4 := 0, cadenceRpm := 0,
                   brake := false, fwVersion := 0, faultCode := 0, tempDiv10 := 0, duty := 0, motorErps := 0,
                   focAngle := 0, fwOffset := 0, telemetry6 := 0, unlisted6 := 0 }

/-- The riding mode and the output ports after reset (spec/70_reset_and_hazards.md R401). -/
def Obligations.ResetPorts : Prop :=
  State.reset.stage = 0 ∧ modeOf State.reset.csr.mode = .off ∧ State.reset.flags.motorEnabled = false ∧
  State.reset.flags.mbFault = false ∧ State.reset.flags.tsFault = false ∧
  levelPorts State.reset = { drvITarget := 0, drvDutyTarget := 0, drvRampUp := Config.P.rampUpDefault,
                             drvRampDown := Config.P.rampDownMin, motorEnabled := false, faultCode := 0,
                             cadenceTicksMin := Config.P.ctmTicksLo, coasterBrakeThr := 0, lights := 0 } ∧
  State.reset.out.pwmEnable = false ∧ State.reset.out.pwmDisable = false ∧ State.reset.out.dutySeedValid = false ∧
  State.reset.out.fwOffsetReset = false ∧ State.reset.out.hallCfgValid = false

/-- c4 shows the flags bit by bit (spec/10_state.md R36). -/
def Obligations.StatusView : Prop :=
  ∀ s : State, ∃ v : Byte, csrRead Config.P s 4 = some (v.setWidth 16) ∧
    v.getLsbD 0 = s.flags.motorEnabled ∧ v.getLsbD 1 = s.flags.mbFault ∧ v.getLsbD 2 = s.flags.tsFault ∧
    v.getLsbD 3 = s.flags.calDone ∧ v.getLsbD 4 = s.flags.cruiseInitPending ∧
    (v.getLsbD 5 = true ↔ Config.P.commLossTicks ≤ s.cnt.commLossCount) ∧
    v.getLsbD 6 = s.flags.frameReady ∧ (v.getLsbD 7 = true ↔ s.txCount ≠ 0)

/-! ### SENSE -/

/-- SENSE: battery voltage and current, wheel speed, cadence and its threshold, motor speed, each from this tick's
sample, and what SENSE leaves alone (spec/41_sensor_conditioning.md R161, R163, R165 to R168). -/
def Obligations.SenseMeasures : Prop :=
  ∀ s : State, ∃ t, exec .sense s = .next t ∧
    t.filt.vbatAcc = s.filt.vbatAcc - s.filt.vbatAcc / 2 ^ Config.P.vbatK + s.inp.adcVbat.toNat ∧
    t.sensor.vbatX1000 = t.filt.vbatAcc / 2 ^ Config.P.vbatK * Config.P.vbatMvPerStep ∧
    t.sensor.ibatX10 = (s.inp.adcIbatFilt.toNat * Config.P.ibatStepX100) / 10 ∧
    t.sensor.wheelSpeedX10 = (if s.inp.wheelTicks = 0 then 0
      else min 65535 ((s.csr.wheelPerimeterMm.toNat * Config.P.wheelNum) / s.inp.wheelTicks.toNat)) ∧
    t.sensor.cadenceRpm = (if s.inp.cadenceTicks = 0 then 0
      else min 255 (Config.P.cadenceNum / s.inp.cadenceTicks.toNat)) ∧
    t.sensor.cadenceTicksMin = lerp t.sensor.wheelSpeedX10 Config.P.ctmSpeedLoX10 Config.P.ctmSpeedHiX10
      Config.P.ctmTicksLo Config.P.ctmTicksHi ∧
    t.sensor.motorErps = s.inp.motorErps.toNat ∧
    t = ((((s.setSensor t.sensor).setFilt t.filt).setCnt { s.cnt with calTicks := t.cnt.calTicks }).setFlags
      { s.flags with calDone := t.flags.calDone }).setStage 2 ∧
    t.filt.tempAcc = s.filt.tempAcc ∧ t.filt.tempX10 = s.filt.tempX10 ∧
    ∀ k, t.rxByte k = s.rxByte k

/-- SENSE: the calibration case chosen by the number of ticks since reset: hold, filter, correct once, freeze; then
the count, saturating; then the torque reading, the delta against the offset as just updated, floored at 0, and the
torque in physical units (spec/41_sensor_conditioning.md R170 to R177). -/
def Obligations.SenseCalibratesTorque : Prop :=
  ∀ s : State, ∃ t, exec .sense s = .next t ∧
    (s.cnt.calTicks < Config.P.calStartTicks →
      t.filt.toffAcc = s.filt.toffAcc ∧ t.filt.torqueOffset = s.filt.torqueOffset ∧
      t.filt.coasterThr = s.filt.coasterThr ∧ t.flags.calDone = s.flags.calDone) ∧
    (Config.P.calStartTicks ≤ s.cnt.calTicks → s.cnt.calTicks < Config.P.calEndTicks →
      t.filt.toffAcc = s.filt.toffAcc - s.filt.toffAcc / 2 ^ Config.P.toffK + s.inp.adcTorque.toNat ∧
      t.filt.torqueOffset = t.filt.toffAcc / 2 ^ Config.P.toffK ∧
      t.filt.coasterThr = s.filt.coasterThr ∧ t.flags.calDone = s.flags.calDone) ∧
    (s.cnt.calTicks = Config.P.calEndTicks →
      t.filt.toffAcc = s.filt.toffAcc ∧
      (t.filt.torqueOffset : Int) = max 0 ((s.filt.torqueOffset : Int) + Config.P.calCorrection) ∧
      t.filt.coasterThr = t.filt.torqueOffset - Config.P.coasterConst ∧ t.flags.calDone = true) ∧
    (Config.P.calEndTicks < s.cnt.calTicks →
      t.filt.toffAcc = s.filt.toffAcc ∧ t.filt.torqueOffset = s.filt.torqueOffset ∧
      t.filt.coasterThr = s.filt.coasterThr ∧ t.flags.calDone = s.flags.calDone) ∧
    t.cnt.calTicks = min (s.cnt.calTicks + 1) (Config.P.calEndTicks + 1) ∧
    t.sensor.torqueAdc = s.inp.adcTorque.toNat ∧
    (t.sensor.torqueDelta : Int) = max 0 ((t.sensor.torqueAdc : Int) - (t.filt.torqueOffset : Int)) ∧
    t.sensor.torqueX100 = t.sensor.torqueDelta * s.csr.torquePerStepX100.toNat

/-! ### HEALTH -/

/-- HEALTH: the motor-blocked detector, and what HEALTH leaves alone (spec/46_health_monitor.md R312). -/
def Obligations.HealthMotorBlocked : Prop :=
  ∀ s : State, ∃ t, exec .health s = .next t ∧
    (s.flags.mbFault = false → 50 < s.sensor.ibatX10 ∧ s.sensor.motorErps < 10 → s.cnt.mbCount + 1 = 10 →
      t.flags.mbFault = true ∧ t.cnt = { s.cnt with mbCount := 0, mbResetCount := 0 }) ∧
    (s.flags.mbFault = false → 50 < s.sensor.ibatX10 ∧ s.sensor.motorErps < 10 → s.cnt.mbCount + 1 ≠ 10 →
      t.flags.mbFault = false ∧ t.cnt = { s.cnt with mbCount := s.cnt.mbCount + 1 }) ∧
    (s.flags.mbFault = false → ¬ (50 < s.sensor.ibatX10 ∧ s.sensor.motorErps < 10) →
      t.flags.mbFault = false ∧ t.cnt = { s.cnt with mbCount := 0 }) ∧
    (s.flags.mbFault = true → s.cnt.mbResetCount + 1 = 100 →
      t.flags.mbFault = false ∧ t.cnt = { s.cnt with mbCount := 0, mbResetCount := 0 }) ∧
    (s.flags.mbFault = true → s.cnt.mbResetCount + 1 ≠ 100 →
      t.flags.mbFault = true ∧ t.cnt = { s.cnt with mbResetCount := s.cnt.mbResetCount + 1 }) ∧
    t = (((s.setFlags { s.flags with mbFault := t.flags.mbFault, tsFault := t.flags.tsFault }).setCnt t.cnt).setCsr
      { s.csr with fault := t.csr.fault }).setStage 3 ∧
    ∀ k, t.rxByte k = s.rxByte k

/-- HEALTH: the torque-sensor fault is a level, armed in three modes only, and the fault code shows MotorBlocked over
TorqueSensorFault (spec/46_health_monitor.md R316, R318). -/
def Obligations.HealthFaultCode : Prop :=
  ∀ s : State, ∃ t, exec .health s = .next t ∧
    (t.flags.tsFault = true ↔
      (modeOf s.csr.mode = .power ∨ modeOf s.csr.mode = .torque ∨ modeOf s.csr.mode = .emtb) ∧
      (s.filt.torqueOffset < 10 ∨ 300 < s.filt.torqueOffset ∨ 500 < s.sensor.torqueAdc)) ∧
    t.csr.fault = (if t.flags.mbFault = true then 1 else if t.flags.tsFault = true then 2 else 0)

/-- The timing of MotorBlocked over successive ticks. `s n` is the state HEALTH of tick n finds and `u n` the one it
leaves; between them only what R312 names is handed on, the rest being arbitrary. The condition held for ten ticks
latches in the tenth and not before; once latched the fault lasts 100 ticks, whatever the condition does, and is
clear in the hundred-and-first (spec/46_health_monitor.md R313). -/
def Obligations.MotorBlockedTiming : Prop :=
  ∀ s u : Nat → State,
    (∀ n, exec .health (s n) = .next (u n)) →
    (∀ n, (s (n + 1)).flags.mbFault = (u n).flags.mbFault ∧ (s (n + 1)).cnt.mbCount = (u n).cnt.mbCount ∧
      (s (n + 1)).cnt.mbResetCount = (u n).cnt.mbResetCount) →
    ∀ n,
      ((s n).flags.mbFault = false → (s n).cnt.mbCount = 0 →
        (∀ k, k < 10 → 50 < (s (n + k)).sensor.ibatX10 ∧ (s (n + k)).sensor.motorErps < 10) →
        (∀ k, k < 9 → (u (n + k)).flags.mbFault = false ∧ (u (n + k)).cnt.mbCount = k + 1) ∧
        (∀ k, k < 100 → (u (n + 9 + k)).flags.mbFault = true ∧ (u (n + 9 + k)).csr.fault = 1 ∧
          (u (n + 9 + k)).cnt.mbResetCount = k) ∧
        (u (n + 109)).flags.mbFault = false ∧ (u (n + 109)).cnt.mbCount = 0)

/-! ### What each operation may write -/

/-- Each piece of state is written by the operations named here for it and by no others (spec/10_state.md R28, R41,
spec/20_memory.md R60): the SensorSample and the calibration SENSE; the fault latches, their counters and c3 HEALTH; the
drive registers and the enable flag ARBITER; the ceiling LAW; the Cruise registers LAW and CRUISE; the temperature
OVERLAY and OVL.TEMP; the AssistOutput LAW, OVERLAY, SPEEDLIM, ARBITER and the operations LAW and OVERLAY contain; the
other control registers COMM and the frames; the outbound record, the frame flag, the loss count and the exchange phase
COMM; the stage the stage operations. No operation writes the receive buffer. The model's own fields: no operation writes the
byte last sent (log entry 24); the sample and the
events IDLE (log entries 2 and 3); the draws COMM (log entry 5); of the output ports, the enable strobes IDLE and
ARBITER, the duty seed ARBITER, the Hall strobe IDLE, COMM and the frames, the Hall values COMM and the frames
(log entry 4). -/
def Obligations.OneWriterEach : Prop :=
  ∀ (i : Instr) (s t : State), exec i s = .next t →
    (i ≠ .sense → t.sensor = s.sensor ∧ t.cnt.calTicks = s.cnt.calTicks ∧ t.flags.calDone = s.flags.calDone ∧
      t.filt.vbatAcc = s.filt.vbatAcc ∧ t.filt.toffAcc = s.filt.toffAcc ∧
      t.filt.torqueOffset = s.filt.torqueOffset ∧ t.filt.coasterThr = s.filt.coasterThr) ∧
    (i ≠ .health → t.flags.mbFault = s.flags.mbFault ∧ t.flags.tsFault = s.flags.tsFault ∧
      t.csr.fault = s.csr.fault ∧ t.cnt.mbCount = s.cnt.mbCount ∧ t.cnt.mbResetCount = s.cnt.mbResetCount) ∧
    (i ≠ .arbiter → t.drv = s.drv ∧ t.flags.motorEnabled = s.flags.motorEnabled ∧ t.out.dutySeed = s.out.dutySeed) ∧
    (i ≠ .law → t.iMax = s.iMax) ∧
    (i ≠ .law → (∀ p, i ≠ .cruise p) → t.pid = s.pid ∧ t.flags.cruiseInitPending = s.flags.cruiseInitPending) ∧
    (i ≠ .overlay → i ≠ .ovlTemp → t.filt.tempAcc = s.filt.tempAcc ∧ t.filt.tempX10 = s.filt.tempX10) ∧
    (i ≠ .law → i ≠ .overlay → i ≠ .speedlim → i ≠ .arbiter → (∀ m p, i ≠ cmdInstr m p) → (∀ o, i ≠ ovlInstr o) →
      t.a = s.a) ∧
    (i ≠ .comm → (∀ k a, i ≠ frameInstr k a) → t.csr = { s.csr with fault := t.csr.fault } ∧
      t.out.hallCfgId = s.out.hallCfgId ∧ t.out.hallCfgData = s.out.hallCfgData ∧
      (i ≠ .idle → t.out.hallCfgValid = s.out.hallCfgValid)) ∧
    (i ≠ .comm → t.txRec = s.txRec ∧ t.txCount = s.txCount ∧ t.flags.frameReady = s.flags.frameReady ∧
      t.cnt.commLossCount = s.cnt.commLossCount ∧ t.tickMod4 = s.tickMod4 ∧ t.draws = s.draws) ∧
    (i ≠ .idle → t.inp = s.inp ∧ t.env = s.env) ∧
    (i ≠ .idle → i ≠ .arbiter → t.out.pwmEnable = s.out.pwmEnable ∧ t.out.pwmDisable = s.out.pwmDisable ∧
      t.out.dutySeedValid = s.out.dutySeedValid ∧ t.out.fwOffsetReset = s.out.fwOffsetReset) ∧
    ((∀ b, i ≠ stageInstr b) → t.stage = s.stage) ∧
    t.txSent = s.txSent ∧
    ∀ k, t.rxByte k = s.rxByte k

/-! ### LAW and the riding modes -/

/-- OFF and OVL.NONE change nothing, whatever the parameter (spec/42_assist_laws.md R199,
spec/44_overlay_speed_limiter.md R261). -/
def Obligations.OffAndNoOverlayDoNothing : Prop :=
  ∀ (p : Byte) (s : State), exec (.off p) s = .next s ∧ exec .ovlNone s = .next s

/-- The two operand values the laws share. `eff_cadence`: the synthesized cadence when the feature is on, the bicycle and
the pedals stand still and the torque delta exceeds 110 minus the threshold, floored at 0; the measured cadence
otherwise (spec/42_assist_laws.md R194). `p2i`: zero at zero voltage, else two truncating divisions in this order
(spec/40_arith_primitives.md R139). -/
def Obligations.EffectiveCadenceAndCurrent : Prop :=
  (∀ (n : Nat) (s : State),
    (s.csr.awprThreshold.toNat ≠ 0 → s.sensor.wheelSpeedX10 = 0 → s.sensor.cadenceRpm = 0 →
      (110 : Int) - s.csr.awprThreshold.toNat < s.sensor.torqueDelta → 0 < s.sensor.torqueDelta → effCadence n s = n) ∧
    (s.csr.awprThreshold.toNat = 0 ∨ s.sensor.wheelSpeedX10 ≠ 0 ∨ s.sensor.cadenceRpm ≠ 0 ∨
      (s.sensor.torqueDelta : Int) ≤ 110 - s.csr.awprThreshold.toNat ∨ s.sensor.torqueDelta = 0 →
      effCadence n s = s.sensor.cadenceRpm)) ∧
  ∀ (P : Params) (s : State) (p : Nat),
    (s.sensor.vbatX1000 = 0 → p2i P s p = 0) ∧
    (s.sensor.vbatX1000 ≠ 0 → p2i P s p = ((p * 1000) / s.sensor.vbatX1000) / P.ibatStepX100)

/-- POWER: the power of the rider times the parameter, converted to a current; ramps shaped
(spec/42_assist_laws.md R200, with R195 and R197). -/
def Obligations.PowerLaw : Prop :=
  ∀ (p : Byte) (s : State), ∃ t, exec (.power p) s = .next t ∧
    t = s.setA (currentTuple Config.P
      (p2i Config.P s ((effCadence Config.P.awprRpmPower s * p.toNat * s.sensor.torqueX100) / 480))
      (effCadence Config.P.awprRpmPower s) s) ∧
    ∀ k, t.rxByte k = s.rxByte k

/-- CADENCE: the parameter's power, clamped, while the pedals turn; nothing otherwise (spec/42_assist_laws.md R202). -/
def Obligations.CadenceLaw : Prop :=
  ∀ (p : Byte) (s : State), ∃ t, exec (.cadence p) s = .next t ∧
    (s.sensor.cadenceRpm ≠ 0 → t = s.setA (currentTuple Config.P
      (p2i Config.P s (min (p.toNat * Config.P.cadPowerPerUnitX100) Config.P.cadPowerMaxX100)) s.sensor.cadenceRpm s)) ∧
    (s.sensor.cadenceRpm = 0 → t = s) ∧
    ∀ k, t.rxByte k = s.rxByte k

/-- TORQUE: the torque delta times the parameter over 110; no action if the effective cadence or the torque delta is
zero (spec/42_assist_laws.md R204). -/
def Obligations.TorqueLaw : Prop :=
  ∀ (p : Byte) (s : State), ∃ t, exec (.torque p) s = .next t ∧
    (effCadence Config.P.awprRpmTorque s ≠ 0 ∧ s.sensor.torqueDelta ≠ 0 → t = s.setA (currentTuple Config.P
      ((s.sensor.torqueDelta * p.toNat) / 110) (effCadence Config.P.awprRpmTorque s) s)) ∧
    (¬ (effCadence Config.P.awprRpmTorque s ≠ 0 ∧ s.sensor.torqueDelta ≠ 0) → t = s) ∧
    ∀ k, t.rxByte k = s.rxByte k

/-- EMTB: entry min(torque delta + 10, 240) of the table the parameter selects; no action for a parameter outside
1 to 20, or at zero cadence or torque delta (spec/42_assist_laws.md R206, spec/20_memory.md R63). -/
def Obligations.EmtbLaw : Prop :=
  ∀ (p : Byte) (s : State), ∃ t, exec (.emtb p) s = .next t ∧
    (effCadence Config.P.awprRpmEmtb s ≠ 0 ∧ s.sensor.torqueDelta ≠ 0 ∧ 1 ≤ p.toNat ∧ p.toNat ≤ 20 →
      t = s.setA (currentTuple Config.P (Config.P.emtbLut p.toNat (min (s.sensor.torqueDelta + 10) 240))
        (effCadence Config.P.awprRpmEmtb s) s)) ∧
    (¬ (effCadence Config.P.awprRpmEmtb s ≠ 0 ∧ s.sensor.torqueDelta ≠ 0 ∧ 1 ≤ p.toNat ∧ p.toNat ≤ 20) → t = s) ∧
    ∀ k, t.rxByte k = s.rxByte k

/-- WALK: below the speed threshold a capped current, the parameter clamped to 80 as duty, fixed ramps; nothing at or
above it (spec/42_assist_laws.md R208). -/
def Obligations.WalkLaw : Prop :=
  ∀ (p : Byte) (s : State), ∃ t, exec (.walk p) s = .next t ∧
    (s.sensor.wheelSpeedX10 < Config.P.walkSpeedMaxX10 → t = s.setA
      { iTarget := min Config.P.walkICap s.iMax, dutyTarget := min p.toNat 80, rampUp := Config.P.walkRampUp,
        rampDown := Config.P.rampDownDefault }) ∧
    (Config.P.walkSpeedMaxX10 ≤ s.sensor.wheelSpeedX10 → t = s) ∧
    ∀ k, t.rxByte k = s.rxByte k

/-- CALIB: the ceiling as current, the parameter capped below the maximum as duty, fixed ramps
(spec/42_assist_laws.md R210). -/
def Obligations.CalibLaw : Prop :=
  ∀ (p : Byte) (s : State), ∃ t, exec (.calib p) s = .next t ∧
    t = s.setA { iTarget := s.iMax, dutyTarget := min p.toNat (Config.P.dutyMax - 1), rampUp := Config.P.calRampUp,
                 rampDown := Config.P.calRampDown } ∧
    ∀ k, t.rxByte k = s.rxByte k

/-- CRUISE above the speed threshold: initialisation if it is pending, then error, integral, derivative, output, duty
and tuple, and nothing else (spec/43_cruise_pid.md R241, R243 to R249). -/
def Obligations.CruiseActive : Prop :=
  ∀ (p : Byte) (s : State), Config.P.cruiseSpeedMinX10 < s.sensor.wheelSpeedX10 →
    ∃ t, exec (.cruise p) s = .next t ∧
      t = ((s.setPid t.pid).setFlags { s.flags with cruiseInitPending := false }).setA t.a ∧
      (s.flags.cruiseInitPending = true →
        t.pid.targetX10 = (if p = 0 then s.sensor.wheelSpeedX10 else p.toNat * 10) ∧
        t.pid.integral = max 0 (min 1000 (320 + t.pid.error)) ∧ t.pid.derivative = t.pid.error) ∧
      (s.flags.cruiseInitPending = false →
        t.pid.targetX10 = s.pid.targetX10 ∧
        t.pid.integral = max 0 (min 1000 (s.pid.integral + t.pid.error)) ∧
        t.pid.derivative = t.pid.error - s.pid.lastError) ∧
      t.pid.error = (t.pid.targetX10 : Int) - s.sensor.wheelSpeedX10 ∧
      t.pid.lastError = t.pid.error ∧
      t.pid.output = max 0 (min 1000 (Config.P.kp * t.pid.error + (Config.P.kiNum * t.pid.integral) / Config.P.kiDen
        + Config.P.kd * t.pid.derivative)) ∧
      t.a = { iTarget := s.iMax, dutyTarget := ((t.pid.output.toNat / 4) * (Config.P.dutyMax - 1)) / 250,
              rampUp := Config.P.cruiseRampUp, rampDown := Config.P.rampDownDefault } ∧
      ∀ k, t.rxByte k = s.rxByte k

/-- CRUISE at or below the threshold does nothing; while no initialisation is pending the parameter is ignored. LAW in
any other mode re-arms the initialisation, an active Cruise tick clears it, and a Cruise tick below the threshold leaves
it and the controller as they are (spec/43_cruise_pid.md R242, R250, hazard H5 of spec/70_reset_and_hazards.md). -/
def Obligations.CruiseHoldsAndRearms : Prop :=
  (∀ (p q : Byte) (s : State),
    (s.sensor.wheelSpeedX10 ≤ Config.P.cruiseSpeedMinX10 → exec (.cruise p) s = .next s) ∧
    (s.flags.cruiseInitPending = false → exec (.cruise p) s = exec (.cruise q) s)) ∧
  ∀ s : State, ∃ t, exec .law s = .next t ∧
    (modeOf s.csr.mode ≠ .cruise → t.flags.cruiseInitPending = true ∧ t.pid = s.pid) ∧
    (modeOf s.csr.mode = .cruise → Config.P.cruiseSpeedMinX10 < s.sensor.wheelSpeedX10 →
      t.flags.cruiseInitPending = false) ∧
    (modeOf s.csr.mode = .cruise → s.sensor.wheelSpeedX10 ≤ Config.P.cruiseSpeedMinX10 →
      t.flags.cruiseInitPending = s.flags.cruiseInitPending ∧ t.pid = s.pid ∧
      t.a = { iTarget := 0, dutyTarget := 0, rampUp := Config.P.rampUpDefault, rampDown := Config.P.rampDownDefault })

/-- After LAW, in every mode, the request is at most the ceiling and the ceiling at most its three bounds; the duty
target is at most the maximum, but for Walk's own ceiling of 80; both ramps are at or above their floors
(spec/42_assist_laws.md R214, R192, R195, R208; spec/00_scope.md R10). -/
def Obligations.LawStaysWithinLimits : Prop :=
  ∀ s t : State, exec .law s = .next t →
    t.a.iTarget ≤ t.iMax ∧ t.iMax ≤ s.csr.iMaxAdc.toNat ∧ t.iMax ≤ Config.P.adcIAbsMax ∧
    t.iMax ≤ p2i Config.P s (s.csr.pMaxW.toNat * 100) ∧
    (modeOf s.csr.mode ≠ .walk → t.a.dutyTarget ≤ Config.P.dutyMax) ∧
    (modeOf s.csr.mode = .walk → t.a.dutyTarget ≤ 80) ∧
    Config.P.rampUpMin ≤ t.a.rampUp ∧ Config.P.rampDownMin ≤ t.a.rampDown

/-- Shaped ramps lie between the minimum and the default, and are the minimum from 20 km/h or 70 RPM on
(spec/42_assist_laws.md R195). -/
def Obligations.ShapedRampsInRange : Prop :=
  ∀ (cad : Nat) (s : State), let t := rampShape Config.P cad s
    (Config.P.rampUpMin ≤ t.a.rampUp ∧ t.a.rampUp ≤ Config.P.rampUpDefault) ∧
    (Config.P.rampDownMin ≤ t.a.rampDown ∧ t.a.rampDown ≤ Config.P.rampDownDefault) ∧
    (200 ≤ s.sensor.wheelSpeedX10 ∨ 70 ≤ cad →
      t.a.rampUp = Config.P.rampUpMin ∧ t.a.rampDown = Config.P.rampDownMin) ∧
    (s.sensor.wheelSpeedX10 ≤ 40 ∧ cad ≤ 20 →
      t.a.rampUp = Config.P.rampUpDefault ∧ t.a.rampDown = Config.P.rampDownDefault)

/-- The table: entry `idx` of table `level` is the ROM's byte at `(level - 1) * 241 + idx`, an address below 4820; an
entry is at most 240, does not fall as the torque delta rises, and the two documented entries are as documented
(spec/40_arith_primitives.md R141, spec/20_memory.md R62, R63). -/
def Obligations.LookupTable : Prop :=
  (∀ level idx, 1 ≤ level → level ≤ 20 → idx ≤ 240 →
    lutAddress level idx = (level - 1) * 241 + idx ∧ lutAddress level idx < 4820 ∧
    romRead Config.P (lutAddress level idx) = Config.P.emtbLut level idx ∧
    lut Config.P level idx = Config.P.emtbLut level idx ∧ lut Config.P level idx ≤ 240) ∧
  (∀ level i j, 1 ≤ level → level ≤ 20 → i ≤ j → j ≤ 240 → lut Config.P level i ≤ lut Config.P level j) ∧
  (∀ level, 1 ≤ level → level ≤ 20 → ∀ s t : State, s.sensor.torqueDelta ≤ t.sensor.torqueDelta →
    lut Config.P level (emtbIndex s) ≤ lut Config.P level (emtbIndex t)) ∧
  lut Config.P 1 0 = 0 ∧ lut Config.P 1 240 = 64

/-! ### OVERLAY and SPEEDLIM -/

/-- OVL.THROTTLE: the throttle's current replaces the tuple only when it is strictly greater
(spec/44_overlay_speed_limiter.md R263). -/
def Obligations.ThrottleOverlay : Prop :=
  ∀ s : State, ∃ t, exec .ovlThrottle s = .next t ∧
    (let i := (lerp s.inp.adcAux.toNat Config.P.thrAdcMin Config.P.thrAdcMax 0 255 * s.iMax) / 255
     let v := s.sensor.wheelSpeedX10
     (s.a.iTarget < i → t = s.setA
        { iTarget := i, dutyTarget := Config.P.dutyMax
          rampUp := lerp v Config.P.thrSpeedLoX10 Config.P.thrSpeedHiX10 Config.P.thrRampUpDefault Config.P.thrRampUpMin
          rampDown := lerp v Config.P.thrSpeedLoX10 Config.P.thrSpeedHiX10 Config.P.thrRampDownDefault
            Config.P.thrRampDownMin }) ∧
     (i ≤ s.a.iTarget → t = s)) ∧
    ∀ k, t.rxByte k = s.rxByte k

/-- OVL.TEMP: the filter, the conversion, and the derated request; bad limits force it to 0. Only the request, the
accumulator and the temperature change (spec/44_overlay_speed_limiter.md R265). -/
def Obligations.TempOverlay : Prop :=
  ∀ s : State, ∃ t, exec .ovlTemp s = .next t ∧
    t = (s.setFilt { s.filt with tempAcc := t.filt.tempAcc, tempX10 := t.filt.tempX10 }).setA
      { s.a with iTarget := t.a.iTarget } ∧
    t.filt.tempAcc = s.filt.tempAcc - s.filt.tempAcc / 8 + s.inp.adcAux.toNat ∧
    t.filt.tempX10 = ((t.filt.tempAcc / 8) * Config.P.tempNum) / Config.P.tempDen ∧
    (s.csr.tempMax.toNat ≤ s.csr.tempMin.toNat → t.a.iTarget = 0) ∧
    (s.csr.tempMin.toNat < s.csr.tempMax.toNat → t.a.iTarget =
      lerp t.filt.tempX10 (s.csr.tempMin.toNat * 10) (s.csr.tempMax.toNat * 10) s.a.iTarget 0) ∧
    ∀ k, t.rxByte k = s.rxByte k

/-- SPEEDLIM: with a maximum speed configured the request is derated over its band; with none it passes; only the
request changes (spec/44_overlay_speed_limiter.md R268). -/
def Obligations.SpeedLimiter : Prop :=
  ∀ s : State, ∃ t, exec .speedlim s = .next t ∧
    t = (s.setA { s.a with iTarget := t.a.iTarget }).setStage 6 ∧
    (s.csr.maxSpeedKmh.toNat = 0 → t.a.iTarget = s.a.iTarget) ∧
    (s.csr.maxSpeedKmh.toNat ≠ 0 → t.a.iTarget =
      lerp s.sensor.wheelSpeedX10 (s.csr.maxSpeedKmh.toNat * 10 - 20) (s.csr.maxSpeedKmh.toNat * 10 + 20)
        s.a.iTarget 0) ∧
    ∀ k, t.rxByte k = s.rxByte k

/-- The limiter's band: unchanged up to 2 km/h below, half rounded up at the maximum speed, nothing from 2 km/h above,
not zero before that, and never more than the input (spec/44_overlay_speed_limiter.md R269). -/
def Obligations.SpeedLimiterBand : Prop :=
  ∀ s t : State, exec .speedlim s = .next t →
    t.a.iTarget ≤ s.a.iTarget ∧
    (s.csr.maxSpeedKmh = 0 → t.a.iTarget = s.a.iTarget) ∧
    (s.csr.maxSpeedKmh ≠ 0 →
      (s.sensor.wheelSpeedX10 + 20 ≤ s.csr.maxSpeedKmh.toNat * 10 → t.a.iTarget = s.a.iTarget) ∧
      (2 ≤ s.csr.maxSpeedKmh.toNat → s.sensor.wheelSpeedX10 = s.csr.maxSpeedKmh.toNat * 10 →
        t.a.iTarget = (s.a.iTarget + 1) / 2) ∧
      (s.csr.maxSpeedKmh.toNat * 10 + 20 ≤ s.sensor.wheelSpeedX10 → t.a.iTarget = 0) ∧
      (s.sensor.wheelSpeedX10 < s.csr.maxSpeedKmh.toNat * 10 + 20 → s.a.iTarget ≠ 0 → t.a.iTarget ≠ 0))

/-- From a request that is at most the ceiling (which is what LAW leaves): after OVERLAY and after SPEEDLIM the request
is still at most the ceiling; the temperature overlay and the limiter do not raise it; the throttle raises it to at most
the ceiling (spec/44_overlay_speed_limiter.md R270). -/
def Obligations.OverlaysKeepTheCeiling : Prop :=
  ∀ s t : State, s.a.iTarget ≤ s.iMax →
    (exec .overlay s = .next t → t.a.iTarget ≤ t.iMax ∧ t.iMax = s.iMax) ∧
    (exec .speedlim s = .next t → t.a.iTarget ≤ t.iMax ∧ t.iMax = s.iMax ∧ t.a.iTarget ≤ s.a.iTarget) ∧
    (exec .ovlTemp s = .next t → t.a.iTarget ≤ s.a.iTarget) ∧
    (exec .ovlThrottle s = .next t → s.a.iTarget ≤ t.a.iTarget ∧ t.a.iTarget ≤ s.iMax)

/-! ### ARBITER -/

/-- The motor enable state machine: the clean stop, the start, and the hold, with the strobes each drives and the ramps
the start forces (spec/45_arbiter_enable_fsm.md R280, R283 to R285). ARBITER does not drive the Hall ports, and the duty
seed it drives only at the start. That a port holds its last value while it is not driven is the model's choice: log
entry 4. -/
def Obligations.EnableStateMachine : Prop :=
  ∀ s : State, ∃ t, exec .arbiter s = .next t ∧
    (let stop := s.flags.motorEnabled = true ∧ s.sensor.motorErps = 0 ∧ s.a.iTarget = 0 ∧ s.inp.dutyNow = 0
     let start := s.flags.motorEnabled = false ∧ s.sensor.motorErps < 50 ∧ s.a.iTarget ≠ 0 ∧ s.inp.brake = false
     let strobes (up down : Bool) := t.out.pwmEnable = up ∧ t.out.pwmDisable = down ∧ t.out.dutySeedValid = up ∧
       t.out.fwOffsetReset = up
     (stop → t.flags.motorEnabled = false ∧ t.a = s.a ∧ strobes false true) ∧
     (start → t.flags.motorEnabled = true ∧
        t.a = { s.a with rampUp := Config.P.rampUpMin, rampDown := Config.P.rampDownMin } ∧
        t.out.dutySeed = Config.P.dutyStartup ∧ strobes true false) ∧
     (¬ stop → ¬ start → t.flags.motorEnabled = s.flags.motorEnabled ∧ t.a = s.a ∧ strobes false false) ∧
     (¬ start → t.out.dutySeed = s.out.dutySeed)) ∧
    (t.out.hallCfgValid = s.out.hallCfgValid ∧ t.out.hallCfgId = s.out.hallCfgId ∧
      t.out.hallCfgData = s.out.hallCfgData) ∧
    t = ((((s.setFlags { s.flags with motorEnabled := t.flags.motorEnabled }).setA t.a).setOut t.out).setDrv
      t.drv).setStage 7 ∧
    ∀ k, t.rxByte k = s.rxByte k

/-- What ARBITER commits: the safe tuple when braking, at a fault, administratively disabled or with the motor Disabled
after the state machine; otherwise the request through its clamps. The request itself is not modified by the inhibit,
only its ramps by a transition of the state machine (spec/45_arbiter_enable_fsm.md R286 to R289). -/
def Obligations.ArbiterCommits : Prop :=
  ∀ s : State, ∃ t, exec .arbiter s = .next t ∧
    (s.inp.brake = true ∨ s.csr.fault ≠ 0 ∨ s.inp.adminDisable = true ∨ t.flags.motorEnabled = false →
      t.drv = { iTarget := 0, dutyTarget := 0, rampUp := Config.P.rampUpDefault, rampDown := Config.P.rampDownMin }) ∧
    (¬ (s.inp.brake = true ∨ s.csr.fault ≠ 0 ∨ s.inp.adminDisable = true ∨ t.flags.motorEnabled = false) →
      t.drv = { iTarget := min t.a.iTarget (min s.iMax Config.P.adcIAbsMax)
                dutyTarget := min t.a.dutyTarget Config.P.dutyMax
                rampUp := max t.a.rampUp Config.P.rampUpMin, rampDown := max t.a.rampDown Config.P.rampDownMin }) ∧
    t.a.iTarget = s.a.iTarget ∧ t.a.dutyTarget = s.a.dutyTarget ∧
    (t.flags.motorEnabled = s.flags.motorEnabled → t.a = s.a)

/-! ### COMM and the frames -/

/-- COMM without an acceptable frame at an exchange: every fourth tick the record is sent unless bytes are in flight, a
pending frame is consumed, and the loss count goes on; in the other ticks the transport is not touched at all
(spec/47_sequencer_host.md R340 to R342, R346). -/
def Obligations.CommWithoutFrame : Prop :=
  ∀ s : State, (s.tickMod4 = 3 → s.flags.frameReady = true → ¬ Acceptable Config.P (rxFrame s)) →
    ∃ t, exec .comm s = .next t ∧
      t.cnt = { s.cnt with commLossCount := min (s.cnt.commLossCount + 1) Config.P.commLossTicks } ∧
      (Config.P.commLossTicks ≤ s.cnt.commLossCount + 1 → t.csr = { s.csr with mode := 0 }) ∧
      (s.cnt.commLossCount + 1 < Config.P.commLossTicks → t.csr = s.csr) ∧
      (s.tickMod4 = 3 → t.flags = { s.flags with frameReady := false } ∧
        (s.txCount = 0 → t.txCount = 29 ∧ t.txRec.body = txBody s) ∧
        (s.txCount ≠ 0 → t.txCount = s.txCount ∧ t.txRec = s.txRec ∧ t.draws = s.draws)) ∧
      (s.tickMod4 ≠ 3 → t.flags = s.flags ∧ t.txCount = s.txCount ∧ t.txRec = s.txRec ∧ t.draws = s.draws) ∧
      t = ((((((((s.setFlags t.flags).setCnt t.cnt).setCsr t.csr).setTxRec t.txRec).setTxCount t.txCount).setDraws
        t.draws).setOut { s.out with hallCfgValid := false }).setTickMod4 (s.tickMod4 + 1)).setStage 0 ∧
      ∀ k, t.rxByte k = s.rxByte k

/-- The record COMM sends, field by field, but for the draws, and its frame of 29 bytes: the start byte first, the CRC
of the 27 bytes before it in bytes 27 and 28, low byte first (spec/47_sequencer_host.md R343, spec/30_encoding.md R104,
spec/20_memory.md R65). Bytes 1 to 26 of the frame are free: log entry 6. -/
def Obligations.OutboundRecord : Prop :=
  ∀ s t : State, exec .comm s = .next t → s.tickMod4 = 3 → s.txCount = 0 →
    t.txCount = 29 ∧ t.txRec.body.start = 0x43 ∧
    t.txRec.body.vbatX1000.toNat = min s.sensor.vbatX1000 65535 ∧
    t.txRec.body.ibatX10.toNat = min s.sensor.ibatX10 255 ∧
    t.txRec.body.wheelSpeedX10.toNat = min s.sensor.wheelSpeedX10 4095 ∧
    (s.sensor.cadenceRpm ≤ 255 → t.txRec.body.cadenceRpm.toNat = s.sensor.cadenceRpm) ∧
    t.txRec.body.brake = s.inp.brake ∧ t.txRec.body.faultCode = s.csr.fault ∧
    t.txRec.body.tempDiv10.toNat = min (s.filt.tempX10 / 10) 255 ∧
    t.txRec.body.duty = s.inp.dutyNow ∧
    (s.sensor.motorErps ≤ 65535 → t.txRec.body.motorErps.toNat = s.sensor.motorErps) ∧
    t.txRec.body.focAngle = s.inp.focAngle ∧ t.txRec.body.fwOffset = s.inp.fwOffset ∧
    t.txRec.crc = Config.P.crc16 ((txFrame t.txRec).take 27) ∧
    (txFrame t.txRec).length = 29 ∧ (txFrame t.txRec)[0]? = some 0x43 ∧
    (txFrame t.txRec)[27]? = some (t.txRec.crc.extractLsb' 0 8) ∧
    (txFrame t.txRec)[28]? = some (t.txRec.crc.extractLsb' 8 8)

/-- FRAME.LIMITS: the header, then the pairs of the payload that name c8 or c9, in order; the others are ignored; with
the default layout c8 is byte 5 and c9 bytes 6 and 7 (spec/47_sequencer_host.md R345, R347). A pair's value has its
register's width: log entry 11. -/
def Obligations.FrameLimitsApplies : Prop :=
  (∀ (f : FrameArgs) (s : State), ∃ t, exec (.frameLimits f) s = .next t ∧
    t = s.setCsr (((Config.P.decodePayload .limits f.payload).filter
      (fun w => decide (cfgReg w = 8 ∨ cfgReg w = 9))).foldl cfgApply
        { s.csr with mode := f.mode, param := f.param, lights := f.lights }) ∧
    t.csr = { s.csr with mode := f.mode, param := f.param, lights := f.lights, iMaxAdc := t.csr.iMaxAdc,
                         pMaxW := t.csr.pMaxW } ∧
    ∀ k, t.rxByte k = s.rxByte k) ∧
  ∀ (P : Params) (f : FrameArgs) (s : State), P.decodePayload = defaultDecodePayload →
    frameLimits P f s = s.setCsr { s.csr with mode := f.mode, param := f.param, lights := f.lights,
                                              iMaxAdc := f.payload.b0, pMaxW := f.payload.b2 ++ f.payload.b1 }

/-- FRAME.WHEEL_ASSIST: the header, then the pairs that name c10 to c13; with the default layout c10 is bytes 5 and 6
and c11 to c13 bytes 7 to 9 (spec/47_sequencer_host.md R345, R348). A pair's value has its register's width: log entry 11. -/
def Obligations.FrameWheelAssistApplies : Prop :=
  (∀ (f : FrameArgs) (s : State), ∃ t, exec (.frameWheelAssist f) s = .next t ∧
    t = s.setCsr (((Config.P.decodePayload .wheelAssist f.payload).filter
      (fun w => decide (cfgReg w = 10 ∨ cfgReg w = 11 ∨ cfgReg w = 12 ∨ cfgReg w = 13))).foldl cfgApply
        { s.csr with mode := f.mode, param := f.param, lights := f.lights }) ∧
    t.csr = { s.csr with mode := f.mode, param := f.param, lights := f.lights,
                         wheelPerimeterMm := t.csr.wheelPerimeterMm, maxSpeedKmh := t.csr.maxSpeedKmh,
                         torquePerStepX100 := t.csr.torquePerStepX100, awprThreshold := t.csr.awprThreshold } ∧
    ∀ k, t.rxByte k = s.rxByte k) ∧
  ∀ (P : Params) (f : FrameArgs) (s : State), P.decodePayload = defaultDecodePayload →
    frameWheelAssist P f s = s.setCsr
      { s.csr with mode := f.mode, param := f.param, lights := f.lights,
                   wheelPerimeterMm := f.payload.b1 ++ f.payload.b0, maxSpeedKmh := f.payload.b2,
                   torquePerStepX100 := f.payload.b3, awprThreshold := f.payload.b4 }

/-- FRAME.OPTFN: the header, then the pairs that name c14 to c16; with the default layout those are bytes 5 to 7
(spec/47_sequencer_host.md R345, R349). No frame changes the torque offset. A pair's value has its register's width: log
entry 11. -/
def Obligations.FrameOptfnApplies : Prop :=
  (∀ (f : FrameArgs) (s : State), ∃ t, exec (.frameOptfn f) s = .next t ∧
    t = s.setCsr (((Config.P.decodePayload .optFn f.payload).filter
      (fun w => decide (cfgReg w = 14 ∨ cfgReg w = 15 ∨ cfgReg w = 16))).foldl cfgApply
        { s.csr with mode := f.mode, param := f.param, lights := f.lights }) ∧
    t.csr = { s.csr with mode := f.mode, param := f.param, lights := f.lights, optFunction := t.csr.optFunction,
                         tempMin := t.csr.tempMin, tempMax := t.csr.tempMax } ∧
    ∀ k, t.rxByte k = s.rxByte k) ∧
  (∀ (P : Params) (f : FrameArgs) (s : State), P.decodePayload = defaultDecodePayload →
    frameOptfn P f s = s.setCsr
      { s.csr with mode := f.mode, param := f.param, lights := f.lights, optFunction := f.payload.b0,
                   tempMin := f.payload.b1, tempMax := f.payload.b2 }) ∧
  ∀ (k : MsgId) (f : FrameArgs) (s t : State), exec (frameInstr k f) s = .next t →
    t.filt.torqueOffset = s.filt.torqueOffset

/-- FRAME.HALL_ANGLES and FRAME.HALL_OFFSETS: the header, and the six payload bytes forwarded with the strobe, the id
telling which; no other register. Every frame operation of the five applies the header, and COMM applies the header of
every frame it accepts, whatever its message-ID (spec/47_sequencer_host.md R345, R350, R351). -/
def Obligations.FrameHallForwards : Prop :=
  (∀ (f : FrameArgs) (s : State),
    (∃ t, exec (.frameHallAngles f) s = .next t ∧
      t = (s.setCsr { s.csr with mode := f.mode, param := f.param, lights := f.lights }).setOut
        { s.out with hallCfgValid := true, hallCfgId := 0, hallCfgData := f.payload } ∧
      ∀ k, t.rxByte k = s.rxByte k) ∧
    ∃ t, exec (.frameHallOffsets f) s = .next t ∧
      t = (s.setCsr { s.csr with mode := f.mode, param := f.param, lights := f.lights }).setOut
        { s.out with hallCfgValid := true, hallCfgId := 1, hallCfgData := f.payload } ∧
      ∀ k, t.rxByte k = s.rxByte k) ∧
  (∀ (k : MsgId) (f : FrameArgs) (s : State), ∃ t, exec (frameInstr k f) s = .next t ∧
    t.csr.mode = f.mode ∧ t.csr.param = f.param ∧ t.csr.lights = f.lights) ∧
  ∀ s : State, s.tickMod4 = 3 → s.flags.frameReady = true → Acceptable Config.P (rxFrame s) →
    ∃ t, exec .comm s = .next t ∧
      t.csr.mode = s.rxByte 2 ∧ t.csr.param = s.rxByte 3 ∧ t.csr.lights = s.rxByte 4

/-- What the host cannot do: COMM, whatever the frame, changes neither c3 nor a fault latch nor the enable flag nor the
calibration nor any datapath register (spec/60_exceptions.md R370). -/
def Obligations.HostAccessIsBounded : Prop :=
  ∀ s t : State, exec .comm s = .next t →
    t.csr.fault = s.csr.fault ∧ t.flags = { s.flags with frameReady := t.flags.frameReady } ∧
    t.sensor = s.sensor ∧ t.a = s.a ∧ t.drv = s.drv ∧ t.iMax = s.iMax ∧ t.pid = s.pid ∧ t.filt = s.filt ∧
    t.cnt = { s.cnt with commLossCount := t.cnt.commLossCount } ∧ t.inp = s.inp ∧
    (t.csr.mode = s.csr.mode ∨ t.csr.mode = 0 ∨
      (s.tickMod4 = 3 ∧ s.flags.frameReady = true ∧ Acceptable Config.P (rxFrame s) ∧
        t.csr.mode = s.rxByte 2 ∧ t.csr.param = s.rxByte 3 ∧ t.csr.lights = s.rxByte 4))

/-- A frame waiting in the receive buffer, and everything else of the transport, is invisible to the six stages from
SENSE to ARBITER: two machines that differ in the transport alone still differ in it alone after each of them, so what a
tick commits does not depend on it (spec/20_memory.md R73, R75, spec/60_exceptions.md R366). -/
def Obligations.PendingFrameIsInvisible : Prop :=
  ∀ (s t s' t' : State), SameButTransport s t → s.stage ≠ 0 → s.stage ≠ 7 →
    step s = .next s' → step t = .next t' → SameButTransport s' t'

/-! ### Arithmetic -/

/-- `lerp` stays between its ends, is monotone in its argument, derates to at most its input, gives the rounded-up half
at the centre of an even band, and is the plain quotient on 0 to 255 (spec/40_arith_primitives.md R136). -/
def Obligations.LerpProperties : Prop :=
  (∀ x x0 x1 y0 y1, min y0 y1 ≤ lerp x x0 x1 y0 y1 ∧ lerp x x0 x1 y0 y1 ≤ max y0 y1) ∧
  (∀ x x' x0 x1 y0 y1, x ≤ x' → (y0 ≤ y1 → lerp x x0 x1 y0 y1 ≤ lerp x' x0 x1 y0 y1) ∧
    (y1 < y0 → lerp x' x0 x1 y0 y1 ≤ lerp x x0 x1 y0 y1)) ∧
  (∀ x x0 x1 y, lerp x x0 x1 y 0 ≤ y) ∧
  (∀ x x0 x1, lerp x x0 x1 0 0 = 0) ∧
  (∀ x0 h y, 0 < h → lerp (x0 + h) x0 (x0 + 2 * h) y 0 = (y + 1) / 2) ∧
  (∀ x m, x ≤ 255 → lerp x 0 255 0 m = (x * m) / 255) ∧
  lerp 120 40 200 160 20 = 90 ∧ lerp 45 20 70 160 20 = 90 ∧ lerp 250 230 270 96 0 = 48 ∧ lerp 250 230 270 97 0 = 49

/-- The filter keeps its accumulator's bound, and with a constant input its filtered value reaches the input and stays
there (spec/40_arith_primitives.md R138). -/
def Obligations.FilterConverges : Prop :=
  (∀ acc raw k m, raw ≤ m → acc ≤ m * 2 ^ k → iir acc raw k ≤ m * 2 ^ k) ∧
  (∀ acc v k, ∃ n, ∀ j, n ≤ j → Nat.iterate (fun a => iir a v k) j acc / 2 ^ k = v) ∧
  iir 0 400 2 = 400 ∧ iir 400 400 2 = 700 ∧ iir 700 400 2 = 925 ∧ iir 925 400 2 = 1094 ∧ iir 1094 400 2 = 1221 ∧
  iir 1221 400 2 = 1316 ∧ Nat.iterate (fun a => iir a 400 2) 40 0 = 1600

/-! ### Invariants -/

/-- The reset state meets the machine's invariant (spec/10_state.md R48, spec/45_arbiter_enable_fsm.md R290,
spec/43_cruise_pid.md R251, spec/40_arith_primitives.md R131). -/
def Obligations.ResetMeetsInvariant : Prop := Inv State.reset

/-- Every step keeps the limits of what is requested and committed: the ceiling, the duty maximum, the ramp floors
(spec/10_state.md R48, spec/45_arbiter_enable_fsm.md R290). -/
def Obligations.LimitsAreKept : Prop :=
  ∀ s t : State, DriveLimits Config.P s → CurrentBounded Config.P s → step s = .next t →
    DriveLimits Config.P t ∧ CurrentBounded Config.P t

/-- Every step keeps the inhibition: from ARBITER until the next tick begins, brake, fault, administrative disable or a
disabled motor mean the safe tuple is what is committed (spec/45_arbiter_enable_fsm.md R286, R290). -/
def Obligations.InhibitionIsKept : Prop :=
  ∀ s t : State, InhibitedIsSafe Config.P s → step s = .next t → InhibitedIsSafe Config.P t

/-- Every step keeps the canonical form of the RX space (spec/20_memory.md R68), the fault code
equal to the view of the latches (spec/46_health_monitor.md R318), and the Cruise integral and output within 0 to 1000
(spec/43_cruise_pid.md R251). The canonical form is the model's: log entry 16. -/
def Obligations.MemoryFaultCodeAndCruiseAreKept : Prop :=
  ∀ s t : State, step s = .next t →
    (MemoryCanonical s → MemoryCanonical t) ∧ (FaultCodeAgrees s → FaultCodeAgrees t) ∧ (PidBounded s → PidBounded t)

/-- Every step keeps every register within its bound, the Cruise integral and output among them, so that the exact
integers of the model are the registers of the spec (spec/10_state.md R24, spec/40_arith_primitives.md R131). The bounds
of the ramps in `A` and `DRV` rest on parameter ranges whose upper end is in part the model's, where spec/00_scope.md R10
prints none: log entry 7. That the registers are exact integers is log entry 8. -/
def Obligations.WidthsAreKept : Prop :=
  ∀ s t : State, WithinWidths Config.P s → step s = .next t → WithinWidths Config.P t

/-- While the host has not written both current limits, a Disabled motor stays Disabled and nothing is requested from
LAW on, whatever the mode and the inputs (spec/70_reset_and_hazards.md R403, R405; spec/45_arbiter_enable_fsm.md R284). -/
def Obligations.NoLimitsNoMotor : Prop :=
  ∀ s t : State, step s = .next t → s.csr.iMaxAdc = 0 ∨ s.csr.pMaxW = 0 → s.flags.motorEnabled = false →
    (LawHasRun s → s.iMax = 0 ∧ s.a.iTarget = 0) →
    t.flags.motorEnabled = false ∧ (LawHasRun t → t.iMax = 0 ∧ t.a.iTarget = 0)
end

