-- ==== Sys2Proof/Laws/Arith.lean ====
section
/-! SUPPORT. What the arithmetic primitives answer (spec/40_arith_primitives.md), one lemma per case, so that no
proof unfolds them. -/

namespace Sys2Proof.Machine

theorem lerp_low {x x0 x1 y0 y1 : Nat} (h : x ≤ x0) : lerp x x0 x1 y0 y1 = y0 := by simp [lerp, h]

theorem lerp_high {x x0 x1 y0 y1 : Nat} (h0 : x0 < x) (h1 : x1 ≤ x) : lerp x x0 x1 y0 y1 = y1 := by
  simp [lerp, Nat.not_le.mpr h0, h1]

theorem lerp_rising {x x0 x1 y0 y1 : Nat} (h0 : x0 < x) (h1 : x < x1) (hy : y0 ≤ y1) :
    lerp x x0 x1 y0 y1 = y0 + ((x - x0) * (y1 - y0)) / (x1 - x0) := by
  simp [lerp, Nat.not_le.mpr h0, Nat.not_le.mpr h1, hy]

theorem lerp_falling {x x0 x1 y0 y1 : Nat} (h0 : x0 < x) (h1 : x < x1) (hy : y1 < y0) :
    lerp x x0 x1 y0 y1 = y0 - ((x - x0) * (y0 - y1)) / (x1 - x0) := by
  simp [lerp, Nat.not_le.mpr h0, Nat.not_le.mpr h1, Nat.not_le.mpr hy]

/-- The slope term inside a span is at most the height of the span. -/
theorem span_le {d n h : Nat} (hd : d ≤ n) (hn : 0 < n) : (d * h) / n ≤ h := by
  have h1 : d * h ≤ n * h := Nat.mul_le_mul_right h hd
  calc (d * h) / n ≤ (n * h) / n := Nat.div_le_div_right h1
    _ = h := Nat.mul_div_cancel_left h hn

theorem p2i_of_zero {P : Params} {s : State} {p : Nat} (h : s.sensor.vbatX1000 = 0) : p2i P s p = 0 := by
  simp [p2i, h]

theorem p2i_of_ne {P : Params} {s : State} {p : Nat} (h : s.sensor.vbatX1000 ≠ 0) :
    p2i P s p = ((p * 1000) / s.sensor.vbatX1000) / P.ibatStepX100 := by simp [p2i, h]

/-- `p2i` reads nothing of the state but the filtered battery voltage. -/
theorem p2i_congr {P : Params} {s t : State} {p : Nat} (h : s.sensor.vbatX1000 = t.sensor.vbatX1000) :
    p2i P s p = p2i P t p := by simp [p2i, h]

theorem clampInt_bounds {v lo hi : Int} (h : lo ≤ hi) : lo ≤ clampInt v lo hi ∧ clampInt v lo hi ≤ hi := by
  unfold clampInt; omega

end Sys2Proof.Machine
end

