-- ==== Sys2Proof/Laws/Config.lean ====
section
/-! SUPPORT. The configuration record is legal (spec/00_scope.md R9 to R11), and a legal record is left as it is by
`legalise`, so `Config.P` stands for any legal record. -/

namespace Sys2Proof

theorem intoRange_le {lo hi v : Nat} : intoRange lo hi v ≤ hi := Nat.min_le_right _ _

theorem le_intoRange {lo hi v : Nat} (h : lo ≤ hi) : lo ≤ intoRange lo hi v := by
  unfold intoRange; omega

theorem intoRange_of_mem {lo hi v : Nat} (h : lo ≤ v ∧ v ≤ hi) : intoRange lo hi v = v := by
  unfold intoRange; omega

theorem risingRow_le (row : Nat → Nat) (n : Nat) : risingRow row n ≤ 240 := by
  induction n with
  | zero => simp only [risingRow]; omega
  | succ n ih => simp only [risingRow]; omega

theorem risingRow_mono (row : Nat → Nat) {i j : Nat} (h : i ≤ j) : risingRow row i ≤ risingRow row j := by
  induction j with
  | zero => simp_all
  | succ j ih =>
    rcases Nat.lt_or_ge i (j + 1) with h' | h'
    · have := ih (by omega)
      simp only [risingRow]; omega
    · have : i = j + 1 := by omega
      rw [this]

/-- A non-decreasing row of entries up to 240 is its own running maximum. -/
theorem risingRow_of_mono {row : Nat → Nat} {n : Nat} (hb : ∀ i, i ≤ n → row i ≤ 240)
    (hm : ∀ i j, i ≤ j → j ≤ n → row i ≤ row j) : risingRow row n = row n := by
  induction n with
  | zero => have := hb 0 (by omega); simp only [risingRow]; omega
  | succ n ih =>
    have e := ih (fun i hi => hb i (by omega)) (fun i j hij hj => hm i j hij (by omega))
    have := hb (n + 1) (by omega)
    have := hm n (n + 1) (by omega) (by omega)
    simp only [risingRow, e]; omega

theorem lawfulLut_le (t : Nat → Nat → Nat) (level idx : Nat) : lawfulLut t level idx ≤ 240 := by
  have h1 := risingRow_le (t 1) idx
  have h2 := risingRow_le (t level) idx
  unfold lawfulLut
  split_ifs <;> omega

theorem lawfulLut_mono (t : Nat → Nat → Nat) (level : Nat) {i j : Nat} (h : i ≤ j) :
    lawfulLut t level i ≤ lawfulLut t level j := by
  have h1 := risingRow_mono (t 1) h
  have h2 := risingRow_mono (t level) h
  unfold lawfulLut
  split_ifs <;> omega

/-- A table that obeys the laws of spec/00_scope.md R11 is unchanged on its domain. -/
theorem lawfulLut_of_laws {t : Nat → Nat → Nat} {level idx : Nat} (hl : 1 ≤ level ∧ level ≤ 20) (hi : idx ≤ 240)
    (hb : ∀ l i, 1 ≤ l → l ≤ 20 → i ≤ 240 → t l i ≤ 240)
    (hm : ∀ l i j, 1 ≤ l → l ≤ 20 → i ≤ j → j ≤ 240 → t l i ≤ t l j)
    (h0 : t 1 0 = 0) (h240 : t 1 240 = 64) : lawfulLut t level idx = t level idx := by
  have e : ∀ l, 1 ≤ l → l ≤ 20 → risingRow (t l) idx = t l idx := fun l h1 h2 =>
    risingRow_of_mono (fun i h => hb l i h1 h2 (by omega)) (fun i j h h' => hm l i j h1 h2 h (by omega))
  unfold lawfulLut
  split_ifs with c1 c2 c3
  · subst c1 c2; exact h0.symm
  · have : idx = 240 := by omega
    subst c1 this; exact h240.symm
  · subst c1
    rw [e 1 (by omega) (by omega)]
    have := hm 1 idx 240 (by omega) (by omega) hi (by omega)
    omega
  · exact e level hl.1 hl.2

/-- Every legalised record is legal. -/
theorem Params.legalise_legal (p : Params) : p.legalise.Legal where
  lutBound level idx _ _ _ := lawfulLut_le _ _ _
  lutMono level i j _ _ h _ := lawfulLut_mono _ _ h
  lutFirst := rfl
  lutLast := rfl
  calCorrection := by simp only [Params.legalise]; omega
  vbatK := intoRange_le
  vbatMvPerStep := ⟨le_intoRange (by decide), intoRange_le⟩
  ibatStepX100 := ⟨le_intoRange (by decide), intoRange_le⟩
  cadenceNum := ⟨le_intoRange (by decide), intoRange_le⟩
  wheelNum := ⟨le_intoRange (by decide), intoRange_le⟩
  ctmSpeedLoX10 := intoRange_le
  ctmSpeedHiX10 := ⟨le_intoRange (Nat.succ_le_succ intoRange_le), intoRange_le⟩
  ctmTicksLo := intoRange_le
  ctmTicksHi := intoRange_le
  calStartTicks := intoRange_le
  calEndTicks := ⟨le_intoRange intoRange_le, intoRange_le⟩
  toffInit := intoRange_le
  toffK := intoRange_le
  coasterConst := intoRange_le
  tempNum := ⟨le_intoRange (by decide), intoRange_le⟩
  tempDen := ⟨le_intoRange (by decide), intoRange_le⟩
  thrAdcMin := intoRange_le
  thrAdcMax := ⟨le_intoRange (Nat.succ_le_succ intoRange_le), intoRange_le⟩
  dutyMax := ⟨le_intoRange (by decide), intoRange_le⟩
  dutyStartup := intoRange_le
  adcIAbsMax := intoRange_le
  rampUpMin := ⟨le_intoRange (by decide), intoRange_le⟩
  rampUpDefault := ⟨le_intoRange intoRange_le, intoRange_le⟩
  rampDownMin := ⟨le_intoRange (by decide), intoRange_le⟩
  rampDownDefault := ⟨le_intoRange intoRange_le, intoRange_le⟩
  awprRpmPower := ⟨le_intoRange (by decide), intoRange_le⟩
  awprRpmTorque := ⟨le_intoRange (by decide), intoRange_le⟩
  awprRpmEmtb := ⟨le_intoRange (by decide), intoRange_le⟩
  cadPowerPerUnitX100 := intoRange_le
  cadPowerMaxX100 := intoRange_le
  walkSpeedMaxX10 := intoRange_le
  walkRampUp := ⟨le_intoRange intoRange_le, intoRange_le⟩
  walkICap := intoRange_le
  cruiseSpeedMinX10 := intoRange_le
  cruiseRampUp := ⟨le_intoRange intoRange_le, intoRange_le⟩
  kp := intoRange_le
  kd := intoRange_le
  kiNum := intoRange_le
  kiDen := ⟨le_intoRange (by decide), intoRange_le⟩
  calRampUp := ⟨le_intoRange intoRange_le, intoRange_le⟩
  calRampDown := ⟨le_intoRange intoRange_le, intoRange_le⟩
  thrSpeedHiX10 := Nat.le_max_left _ _
  thrRampUpMin := ⟨le_intoRange intoRange_le, intoRange_le⟩
  thrRampUpDefault := ⟨le_intoRange intoRange_le, intoRange_le⟩
  thrRampDownMin := ⟨le_intoRange intoRange_le, intoRange_le⟩
  thrRampDownDefault := ⟨le_intoRange intoRange_le, intoRange_le⟩
  commLossTicks := ⟨le_intoRange (by decide), intoRange_le⟩

/-- A legal record keeps every parameter. -/
theorem Params.legalise_of_legal {p : Params} (h : p.Legal) :
    p.legalise = { p with emtbLut := lawfulLut p.emtbLut } := by
  have hc : min (max p.calCorrection (-1023)) 1023 = p.calCorrection := by have := h.calCorrection; omega
  simp only [Params.legalise, hc,
    intoRange_of_mem ⟨Nat.zero_le _, h.vbatK⟩, intoRange_of_mem h.vbatMvPerStep, intoRange_of_mem
    h.ibatStepX100, intoRange_of_mem h.cadenceNum, intoRange_of_mem h.wheelNum, intoRange_of_mem ⟨Nat.zero_le
    _, h.ctmSpeedLoX10⟩, intoRange_of_mem h.ctmSpeedHiX10, intoRange_of_mem ⟨Nat.zero_le _, h.ctmTicksLo⟩,
    intoRange_of_mem ⟨Nat.zero_le _, h.ctmTicksHi⟩, intoRange_of_mem ⟨Nat.zero_le _, h.calStartTicks⟩,
    intoRange_of_mem h.calEndTicks, intoRange_of_mem ⟨Nat.zero_le _, h.toffInit⟩, intoRange_of_mem
    ⟨Nat.zero_le _, h.toffK⟩, intoRange_of_mem ⟨Nat.zero_le _, h.coasterConst⟩, intoRange_of_mem h.tempNum,
    intoRange_of_mem h.tempDen, intoRange_of_mem ⟨Nat.zero_le _, h.thrAdcMin⟩, intoRange_of_mem h.thrAdcMax,
    intoRange_of_mem h.dutyMax, intoRange_of_mem ⟨Nat.zero_le _, h.dutyStartup⟩, intoRange_of_mem ⟨Nat.zero_le
    _, h.adcIAbsMax⟩, intoRange_of_mem h.rampUpMin, intoRange_of_mem h.rampUpDefault, intoRange_of_mem
    h.rampDownMin, intoRange_of_mem h.rampDownDefault, intoRange_of_mem h.awprRpmPower, intoRange_of_mem
    h.awprRpmTorque, intoRange_of_mem h.awprRpmEmtb, intoRange_of_mem ⟨Nat.zero_le _, h.cadPowerPerUnitX100⟩,
    intoRange_of_mem ⟨Nat.zero_le _, h.cadPowerMaxX100⟩, intoRange_of_mem ⟨Nat.zero_le _, h.walkSpeedMaxX10⟩,
    intoRange_of_mem h.walkRampUp, intoRange_of_mem ⟨Nat.zero_le _, h.walkICap⟩, intoRange_of_mem ⟨Nat.zero_le
    _, h.cruiseSpeedMinX10⟩, intoRange_of_mem h.cruiseRampUp, intoRange_of_mem ⟨Nat.zero_le _, h.kp⟩,
    intoRange_of_mem ⟨Nat.zero_le _, h.kd⟩, intoRange_of_mem ⟨Nat.zero_le _, h.kiNum⟩, intoRange_of_mem
    h.kiDen, intoRange_of_mem h.calRampUp, intoRange_of_mem h.calRampDown, Nat.max_eq_right
    (Nat.succ_le_of_lt h.thrSpeedHiX10), intoRange_of_mem h.thrRampUpMin, intoRange_of_mem
    h.thrRampUpDefault, intoRange_of_mem h.thrRampDownMin, intoRange_of_mem h.thrRampDownDefault,
    intoRange_of_mem h.commLossTicks]

/-- The implementation's record is legal. -/
theorem Config.P_legal : Config.P.Legal := Params.legalise_legal _

end Sys2Proof
end

