-- ==== Sys2Proof/Laws/Encoding.lean ====
section
/-! SUPPORT. Bytes and words: the two bytes of a command word, the bytes of a table word, and a frame read back from
its table word. -/

namespace Sys2Proof

/-- Two bytes side by side, as a number. -/
theorem toNat_append_bytes (m p : Byte) : (m ++ p : Half).toNat = m.toNat * 256 + p.toNat := by
  have := BitVec.toNat_append m p
  rw [this, Nat.shiftLeft_eq, Nat.mul_comm m.toNat, show (2:Nat)^8 = 256 from rfl]
  rw [show (256:Nat) = 2^8 from rfl, ← Nat.two_pow_add_eq_or_of_lt p.isLt]

/-- The mode byte of a command word. -/
theorem append_hi (m : Byte) (p : Byte) : (m ++ p : Half).extractLsb' 8 8 = m := by
  apply BitVec.eq_of_toNat_eq
  have := m.isLt; have := p.isLt
  rw [BitVec.extractLsb'_toNat, toNat_append_bytes, Nat.shiftRight_eq_div_pow]; omega

/-- The parameter byte of a command word. -/
theorem append_lo (m : Byte) (p : Byte) : (m ++ p : Half).extractLsb' 0 8 = p := by
  apply BitVec.eq_of_toNat_eq
  have := m.isLt; have := p.isLt
  rw [BitVec.extractLsb'_toNat, toNat_append_bytes, Nat.shiftRight_eq_div_pow]; omega


/-- A 16-bit field is what its two wire bytes make. -/
theorem u16le_bytes (v : Half) : u16le (lowByte v) (highByte v) = v := by
  apply BitVec.eq_of_toNat_eq
  rw [u16le, toNat_append_bytes]
  simp only [lowByte, highByte, BitVec.extractLsb'_toNat, Nat.shiftRight_eq_div_pow]
  have := v.isLt
  omega

/-- Byte 0 of a number. -/
theorem byteOf_zero (w : Nat) : (byteOf w 0).toNat = w % 256 := by simp [byteOf]

/-- Byte k + 1 of a number is byte k of the rest. -/
theorem byteOf_succ (w k : Nat) : byteOf w (k + 1) = byteOf (w / 256) k := by
  unfold byteOf
  rw [Nat.mul_add, Nat.mul_one, Nat.add_comm, Nat.shiftRight_add, Nat.shiftRight_eq_div_pow _ 8]

/-- Byte `k` of the number of a list of bytes is the list's byte `k`. -/
theorem byteOf_natOfBytes (l : List Byte) (k : Nat) : byteOf (natOfBytes l) k = l.getD k 0 := by
  induction l generalizing k with
  | nil => simp [natOfBytes, byteOf]
  | cons b l ih =>
    have hb := b.isLt
    cases k with
    | zero => apply BitVec.eq_of_toNat_eq; rw [byteOf_zero]; simp [natOfBytes]; omega
    | succ k =>
      rw [byteOf_succ, show natOfBytes (b :: l) / 256 = natOfBytes l by simp only [natOfBytes]; omega, ih]; rfl

/-- The number of n bytes is below 256 to the n. -/
theorem natOfBytes_lt (l : List Byte) : natOfBytes l < 256 ^ l.length := by
  induction l with
  | nil => simp [natOfBytes]
  | cons b l ih => have := b.isLt; simp only [natOfBytes, List.length_cons, Nat.pow_succ]; omega

/-- A frame with the right start byte is read back from its table word. -/
theorem tableFrame_natOfBytes (f : Vector Byte 13) (h : f[0] = Config.RX_START) :
    tableFrame (natOfBytes f.toList) = f := by
  have e : ∀ k (hk : k < 13), byteOf (natOfBytes f.toList) k = f[k] := by
    intro k hk
    rw [byteOf_natOfBytes, List.getD_eq_getElem _ _ (by simpa using hk)]; simp
  unfold tableFrame
  rw [if_pos (by rw [e 0 (by omega)]; exact h)]
  ext i hi
  interval_cases i <;> simp [e]

/-- What the encoder writes is accepted by the frame decoder, with the same fields. -/
theorem decodeFrame_frameBytes (k : MsgId) (a : FrameArgs) : decodeFrame (frameBytes k a) = .ok (k, a) := by
  cases k <;> rfl

/-- The decoder reads back every frame it accepts. -/
theorem frameBytes_of_decodeFrame {f : Vector Byte 13} {k : MsgId} {a : FrameArgs}
    (h : decodeFrame f = .ok (k, a)) : f = frameBytes k a := by
  unfold decodeFrame at h
  split_ifs at h with h0
  split at h
  · rename_i k' hk
    obtain ⟨rfl, rfl⟩ : k' = k ∧ frameArgs f = a := by simpa using h
    have e1 : f[1] = msgCode k' := by
      unfold msgOf at hk
      have hf : f[1] = BitVec.ofNat 8 f[1].toNat := by simp
      split at hk <;> simp at hk <;> subst hk <;> rw [hf] <;> rename_i hn <;> rw [hn] <;> rfl
    ext i hi
    simp only [frameBytes, frameArgs]
    interval_cases i <;> simp [h0, e1]
  · simp at h

end Sys2Proof
end

