-- ==== Sys2Proof/Laws/State.lean ====
section
/-! SUPPORT. One lemma per field per update of State, true by unfolding: after an update the updated field is the
new value and every other field is as before; two updates of one field are the last. -/

namespace Sys2Proof.Machine

@[simp] theorem setStage_stage (s : State) (x : BitVec 3) : (s.setStage x).stage = x := rfl
@[simp] theorem setStage_tickMod4 (s : State) (x : BitVec 3) : (s.setStage x).tickMod4 = s.tickMod4 := rfl
@[simp] theorem setStage_sensor (s : State) (x : BitVec 3) : (s.setStage x).sensor = s.sensor := rfl
@[simp] theorem setStage_a (s : State) (x : BitVec 3) : (s.setStage x).a = s.a := rfl
@[simp] theorem setStage_drv (s : State) (x : BitVec 3) : (s.setStage x).drv = s.drv := rfl
@[simp] theorem setStage_iMax (s : State) (x : BitVec 3) : (s.setStage x).iMax = s.iMax := rfl
@[simp] theorem setStage_csr (s : State) (x : BitVec 3) : (s.setStage x).csr = s.csr := rfl
@[simp] theorem setStage_flags (s : State) (x : BitVec 3) : (s.setStage x).flags = s.flags := rfl
@[simp] theorem setStage_pid (s : State) (x : BitVec 3) : (s.setStage x).pid = s.pid := rfl
@[simp] theorem setStage_filt (s : State) (x : BitVec 3) : (s.setStage x).filt = s.filt := rfl
@[simp] theorem setStage_cnt (s : State) (x : BitVec 3) : (s.setStage x).cnt = s.cnt := rfl
@[simp] theorem setStage_rxBuf (s : State) (x : BitVec 3) : (s.setStage x).rxBuf = s.rxBuf := rfl
@[simp] theorem setStage_txRec (s : State) (x : BitVec 3) : (s.setStage x).txRec = s.txRec := rfl
@[simp] theorem setStage_txCount (s : State) (x : BitVec 3) : (s.setStage x).txCount = s.txCount := rfl
@[simp] theorem setStage_inp (s : State) (x : BitVec 3) : (s.setStage x).inp = s.inp := rfl
@[simp] theorem setStage_out (s : State) (x : BitVec 3) : (s.setStage x).out = s.out := rfl
@[simp] theorem setStage_env (s : State) (x : BitVec 3) : (s.setStage x).env = s.env := rfl
@[simp] theorem setStage_draws (s : State) (x : BitVec 3) : (s.setStage x).draws = s.draws := rfl
@[simp] theorem setStage_txSent (s : State) (x : BitVec 3) : (s.setStage x).txSent = s.txSent := rfl
@[simp] theorem setStage_setStage (s : State) (x y : BitVec 3) : (s.setStage x).setStage y = s.setStage y := rfl
@[simp] theorem setStage_self (s : State) : s.setStage s.stage = s := rfl

@[simp] theorem setTickMod4_stage (s : State) (x : BitVec 2) : (s.setTickMod4 x).stage = s.stage := rfl
@[simp] theorem setTickMod4_tickMod4 (s : State) (x : BitVec 2) : (s.setTickMod4 x).tickMod4 = x := rfl
@[simp] theorem setTickMod4_sensor (s : State) (x : BitVec 2) : (s.setTickMod4 x).sensor = s.sensor := rfl
@[simp] theorem setTickMod4_a (s : State) (x : BitVec 2) : (s.setTickMod4 x).a = s.a := rfl
@[simp] theorem setTickMod4_drv (s : State) (x : BitVec 2) : (s.setTickMod4 x).drv = s.drv := rfl
@[simp] theorem setTickMod4_iMax (s : State) (x : BitVec 2) : (s.setTickMod4 x).iMax = s.iMax := rfl
@[simp] theorem setTickMod4_csr (s : State) (x : BitVec 2) : (s.setTickMod4 x).csr = s.csr := rfl
@[simp] theorem setTickMod4_flags (s : State) (x : BitVec 2) : (s.setTickMod4 x).flags = s.flags := rfl
@[simp] theorem setTickMod4_pid (s : State) (x : BitVec 2) : (s.setTickMod4 x).pid = s.pid := rfl
@[simp] theorem setTickMod4_filt (s : State) (x : BitVec 2) : (s.setTickMod4 x).filt = s.filt := rfl
@[simp] theorem setTickMod4_cnt (s : State) (x : BitVec 2) : (s.setTickMod4 x).cnt = s.cnt := rfl
@[simp] theorem setTickMod4_rxBuf (s : State) (x : BitVec 2) : (s.setTickMod4 x).rxBuf = s.rxBuf := rfl
@[simp] theorem setTickMod4_txRec (s : State) (x : BitVec 2) : (s.setTickMod4 x).txRec = s.txRec := rfl
@[simp] theorem setTickMod4_txCount (s : State) (x : BitVec 2) : (s.setTickMod4 x).txCount = s.txCount := rfl
@[simp] theorem setTickMod4_inp (s : State) (x : BitVec 2) : (s.setTickMod4 x).inp = s.inp := rfl
@[simp] theorem setTickMod4_out (s : State) (x : BitVec 2) : (s.setTickMod4 x).out = s.out := rfl
@[simp] theorem setTickMod4_env (s : State) (x : BitVec 2) : (s.setTickMod4 x).env = s.env := rfl
@[simp] theorem setTickMod4_draws (s : State) (x : BitVec 2) : (s.setTickMod4 x).draws = s.draws := rfl
@[simp] theorem setTickMod4_txSent (s : State) (x : BitVec 2) : (s.setTickMod4 x).txSent = s.txSent := rfl
@[simp] theorem setTickMod4_setTickMod4 (s : State) (x y : BitVec 2) : (s.setTickMod4 x).setTickMod4 y = s.setTickMod4 y := rfl
@[simp] theorem setTickMod4_self (s : State) : s.setTickMod4 s.tickMod4 = s := rfl

@[simp] theorem setSensor_stage (s : State) (x : Sensor) : (s.setSensor x).stage = s.stage := rfl
@[simp] theorem setSensor_tickMod4 (s : State) (x : Sensor) : (s.setSensor x).tickMod4 = s.tickMod4 := rfl
@[simp] theorem setSensor_sensor (s : State) (x : Sensor) : (s.setSensor x).sensor = x := rfl
@[simp] theorem setSensor_a (s : State) (x : Sensor) : (s.setSensor x).a = s.a := rfl
@[simp] theorem setSensor_drv (s : State) (x : Sensor) : (s.setSensor x).drv = s.drv := rfl
@[simp] theorem setSensor_iMax (s : State) (x : Sensor) : (s.setSensor x).iMax = s.iMax := rfl
@[simp] theorem setSensor_csr (s : State) (x : Sensor) : (s.setSensor x).csr = s.csr := rfl
@[simp] theorem setSensor_flags (s : State) (x : Sensor) : (s.setSensor x).flags = s.flags := rfl
@[simp] theorem setSensor_pid (s : State) (x : Sensor) : (s.setSensor x).pid = s.pid := rfl
@[simp] theorem setSensor_filt (s : State) (x : Sensor) : (s.setSensor x).filt = s.filt := rfl
@[simp] theorem setSensor_cnt (s : State) (x : Sensor) : (s.setSensor x).cnt = s.cnt := rfl
@[simp] theorem setSensor_rxBuf (s : State) (x : Sensor) : (s.setSensor x).rxBuf = s.rxBuf := rfl
@[simp] theorem setSensor_txRec (s : State) (x : Sensor) : (s.setSensor x).txRec = s.txRec := rfl
@[simp] theorem setSensor_txCount (s : State) (x : Sensor) : (s.setSensor x).txCount = s.txCount := rfl
@[simp] theorem setSensor_inp (s : State) (x : Sensor) : (s.setSensor x).inp = s.inp := rfl
@[simp] theorem setSensor_out (s : State) (x : Sensor) : (s.setSensor x).out = s.out := rfl
@[simp] theorem setSensor_env (s : State) (x : Sensor) : (s.setSensor x).env = s.env := rfl
@[simp] theorem setSensor_draws (s : State) (x : Sensor) : (s.setSensor x).draws = s.draws := rfl
@[simp] theorem setSensor_txSent (s : State) (x : Sensor) : (s.setSensor x).txSent = s.txSent := rfl
@[simp] theorem setSensor_setSensor (s : State) (x y : Sensor) : (s.setSensor x).setSensor y = s.setSensor y := rfl
@[simp] theorem setSensor_self (s : State) : s.setSensor s.sensor = s := rfl

@[simp] theorem setA_stage (s : State) (x : DriveTuple) : (s.setA x).stage = s.stage := rfl
@[simp] theorem setA_tickMod4 (s : State) (x : DriveTuple) : (s.setA x).tickMod4 = s.tickMod4 := rfl
@[simp] theorem setA_sensor (s : State) (x : DriveTuple) : (s.setA x).sensor = s.sensor := rfl
@[simp] theorem setA_a (s : State) (x : DriveTuple) : (s.setA x).a = x := rfl
@[simp] theorem setA_drv (s : State) (x : DriveTuple) : (s.setA x).drv = s.drv := rfl
@[simp] theorem setA_iMax (s : State) (x : DriveTuple) : (s.setA x).iMax = s.iMax := rfl
@[simp] theorem setA_csr (s : State) (x : DriveTuple) : (s.setA x).csr = s.csr := rfl
@[simp] theorem setA_flags (s : State) (x : DriveTuple) : (s.setA x).flags = s.flags := rfl
@[simp] theorem setA_pid (s : State) (x : DriveTuple) : (s.setA x).pid = s.pid := rfl
@[simp] theorem setA_filt (s : State) (x : DriveTuple) : (s.setA x).filt = s.filt := rfl
@[simp] theorem setA_cnt (s : State) (x : DriveTuple) : (s.setA x).cnt = s.cnt := rfl
@[simp] theorem setA_rxBuf (s : State) (x : DriveTuple) : (s.setA x).rxBuf = s.rxBuf := rfl
@[simp] theorem setA_txRec (s : State) (x : DriveTuple) : (s.setA x).txRec = s.txRec := rfl
@[simp] theorem setA_txCount (s : State) (x : DriveTuple) : (s.setA x).txCount = s.txCount := rfl
@[simp] theorem setA_inp (s : State) (x : DriveTuple) : (s.setA x).inp = s.inp := rfl
@[simp] theorem setA_out (s : State) (x : DriveTuple) : (s.setA x).out = s.out := rfl
@[simp] theorem setA_env (s : State) (x : DriveTuple) : (s.setA x).env = s.env := rfl
@[simp] theorem setA_draws (s : State) (x : DriveTuple) : (s.setA x).draws = s.draws := rfl
@[simp] theorem setA_txSent (s : State) (x : DriveTuple) : (s.setA x).txSent = s.txSent := rfl
@[simp] theorem setA_setA (s : State) (x y : DriveTuple) : (s.setA x).setA y = s.setA y := rfl
@[simp] theorem setA_self (s : State) : s.setA s.a = s := rfl

@[simp] theorem setDrv_stage (s : State) (x : DriveTuple) : (s.setDrv x).stage = s.stage := rfl
@[simp] theorem setDrv_tickMod4 (s : State) (x : DriveTuple) : (s.setDrv x).tickMod4 = s.tickMod4 := rfl
@[simp] theorem setDrv_sensor (s : State) (x : DriveTuple) : (s.setDrv x).sensor = s.sensor := rfl
@[simp] theorem setDrv_a (s : State) (x : DriveTuple) : (s.setDrv x).a = s.a := rfl
@[simp] theorem setDrv_drv (s : State) (x : DriveTuple) : (s.setDrv x).drv = x := rfl
@[simp] theorem setDrv_iMax (s : State) (x : DriveTuple) : (s.setDrv x).iMax = s.iMax := rfl
@[simp] theorem setDrv_csr (s : State) (x : DriveTuple) : (s.setDrv x).csr = s.csr := rfl
@[simp] theorem setDrv_flags (s : State) (x : DriveTuple) : (s.setDrv x).flags = s.flags := rfl
@[simp] theorem setDrv_pid (s : State) (x : DriveTuple) : (s.setDrv x).pid = s.pid := rfl
@[simp] theorem setDrv_filt (s : State) (x : DriveTuple) : (s.setDrv x).filt = s.filt := rfl
@[simp] theorem setDrv_cnt (s : State) (x : DriveTuple) : (s.setDrv x).cnt = s.cnt := rfl
@[simp] theorem setDrv_rxBuf (s : State) (x : DriveTuple) : (s.setDrv x).rxBuf = s.rxBuf := rfl
@[simp] theorem setDrv_txRec (s : State) (x : DriveTuple) : (s.setDrv x).txRec = s.txRec := rfl
@[simp] theorem setDrv_txCount (s : State) (x : DriveTuple) : (s.setDrv x).txCount = s.txCount := rfl
@[simp] theorem setDrv_inp (s : State) (x : DriveTuple) : (s.setDrv x).inp = s.inp := rfl
@[simp] theorem setDrv_out (s : State) (x : DriveTuple) : (s.setDrv x).out = s.out := rfl
@[simp] theorem setDrv_env (s : State) (x : DriveTuple) : (s.setDrv x).env = s.env := rfl
@[simp] theorem setDrv_draws (s : State) (x : DriveTuple) : (s.setDrv x).draws = s.draws := rfl
@[simp] theorem setDrv_txSent (s : State) (x : DriveTuple) : (s.setDrv x).txSent = s.txSent := rfl
@[simp] theorem setDrv_setDrv (s : State) (x y : DriveTuple) : (s.setDrv x).setDrv y = s.setDrv y := rfl
@[simp] theorem setDrv_self (s : State) : s.setDrv s.drv = s := rfl

@[simp] theorem setIMax_stage (s : State) (x : Nat) : (s.setIMax x).stage = s.stage := rfl
@[simp] theorem setIMax_tickMod4 (s : State) (x : Nat) : (s.setIMax x).tickMod4 = s.tickMod4 := rfl
@[simp] theorem setIMax_sensor (s : State) (x : Nat) : (s.setIMax x).sensor = s.sensor := rfl
@[simp] theorem setIMax_a (s : State) (x : Nat) : (s.setIMax x).a = s.a := rfl
@[simp] theorem setIMax_drv (s : State) (x : Nat) : (s.setIMax x).drv = s.drv := rfl
@[simp] theorem setIMax_iMax (s : State) (x : Nat) : (s.setIMax x).iMax = x := rfl
@[simp] theorem setIMax_csr (s : State) (x : Nat) : (s.setIMax x).csr = s.csr := rfl
@[simp] theorem setIMax_flags (s : State) (x : Nat) : (s.setIMax x).flags = s.flags := rfl
@[simp] theorem setIMax_pid (s : State) (x : Nat) : (s.setIMax x).pid = s.pid := rfl
@[simp] theorem setIMax_filt (s : State) (x : Nat) : (s.setIMax x).filt = s.filt := rfl
@[simp] theorem setIMax_cnt (s : State) (x : Nat) : (s.setIMax x).cnt = s.cnt := rfl
@[simp] theorem setIMax_rxBuf (s : State) (x : Nat) : (s.setIMax x).rxBuf = s.rxBuf := rfl
@[simp] theorem setIMax_txRec (s : State) (x : Nat) : (s.setIMax x).txRec = s.txRec := rfl
@[simp] theorem setIMax_txCount (s : State) (x : Nat) : (s.setIMax x).txCount = s.txCount := rfl
@[simp] theorem setIMax_inp (s : State) (x : Nat) : (s.setIMax x).inp = s.inp := rfl
@[simp] theorem setIMax_out (s : State) (x : Nat) : (s.setIMax x).out = s.out := rfl
@[simp] theorem setIMax_env (s : State) (x : Nat) : (s.setIMax x).env = s.env := rfl
@[simp] theorem setIMax_draws (s : State) (x : Nat) : (s.setIMax x).draws = s.draws := rfl
@[simp] theorem setIMax_txSent (s : State) (x : Nat) : (s.setIMax x).txSent = s.txSent := rfl
@[simp] theorem setIMax_setIMax (s : State) (x y : Nat) : (s.setIMax x).setIMax y = s.setIMax y := rfl
@[simp] theorem setIMax_self (s : State) : s.setIMax s.iMax = s := rfl

@[simp] theorem setCsr_stage (s : State) (x : Csr) : (s.setCsr x).stage = s.stage := rfl
@[simp] theorem setCsr_tickMod4 (s : State) (x : Csr) : (s.setCsr x).tickMod4 = s.tickMod4 := rfl
@[simp] theorem setCsr_sensor (s : State) (x : Csr) : (s.setCsr x).sensor = s.sensor := rfl
@[simp] theorem setCsr_a (s : State) (x : Csr) : (s.setCsr x).a = s.a := rfl
@[simp] theorem setCsr_drv (s : State) (x : Csr) : (s.setCsr x).drv = s.drv := rfl
@[simp] theorem setCsr_iMax (s : State) (x : Csr) : (s.setCsr x).iMax = s.iMax := rfl
@[simp] theorem setCsr_csr (s : State) (x : Csr) : (s.setCsr x).csr = x := rfl
@[simp] theorem setCsr_flags (s : State) (x : Csr) : (s.setCsr x).flags = s.flags := rfl
@[simp] theorem setCsr_pid (s : State) (x : Csr) : (s.setCsr x).pid = s.pid := rfl
@[simp] theorem setCsr_filt (s : State) (x : Csr) : (s.setCsr x).filt = s.filt := rfl
@[simp] theorem setCsr_cnt (s : State) (x : Csr) : (s.setCsr x).cnt = s.cnt := rfl
@[simp] theorem setCsr_rxBuf (s : State) (x : Csr) : (s.setCsr x).rxBuf = s.rxBuf := rfl
@[simp] theorem setCsr_txRec (s : State) (x : Csr) : (s.setCsr x).txRec = s.txRec := rfl
@[simp] theorem setCsr_txCount (s : State) (x : Csr) : (s.setCsr x).txCount = s.txCount := rfl
@[simp] theorem setCsr_inp (s : State) (x : Csr) : (s.setCsr x).inp = s.inp := rfl
@[simp] theorem setCsr_out (s : State) (x : Csr) : (s.setCsr x).out = s.out := rfl
@[simp] theorem setCsr_env (s : State) (x : Csr) : (s.setCsr x).env = s.env := rfl
@[simp] theorem setCsr_draws (s : State) (x : Csr) : (s.setCsr x).draws = s.draws := rfl
@[simp] theorem setCsr_txSent (s : State) (x : Csr) : (s.setCsr x).txSent = s.txSent := rfl
@[simp] theorem setCsr_setCsr (s : State) (x y : Csr) : (s.setCsr x).setCsr y = s.setCsr y := rfl
@[simp] theorem setCsr_self (s : State) : s.setCsr s.csr = s := rfl

@[simp] theorem setFlags_stage (s : State) (x : Flags) : (s.setFlags x).stage = s.stage := rfl
@[simp] theorem setFlags_tickMod4 (s : State) (x : Flags) : (s.setFlags x).tickMod4 = s.tickMod4 := rfl
@[simp] theorem setFlags_sensor (s : State) (x : Flags) : (s.setFlags x).sensor = s.sensor := rfl
@[simp] theorem setFlags_a (s : State) (x : Flags) : (s.setFlags x).a = s.a := rfl
@[simp] theorem setFlags_drv (s : State) (x : Flags) : (s.setFlags x).drv = s.drv := rfl
@[simp] theorem setFlags_iMax (s : State) (x : Flags) : (s.setFlags x).iMax = s.iMax := rfl
@[simp] theorem setFlags_csr (s : State) (x : Flags) : (s.setFlags x).csr = s.csr := rfl
@[simp] theorem setFlags_flags (s : State) (x : Flags) : (s.setFlags x).flags = x := rfl
@[simp] theorem setFlags_pid (s : State) (x : Flags) : (s.setFlags x).pid = s.pid := rfl
@[simp] theorem setFlags_filt (s : State) (x : Flags) : (s.setFlags x).filt = s.filt := rfl
@[simp] theorem setFlags_cnt (s : State) (x : Flags) : (s.setFlags x).cnt = s.cnt := rfl
@[simp] theorem setFlags_rxBuf (s : State) (x : Flags) : (s.setFlags x).rxBuf = s.rxBuf := rfl
@[simp] theorem setFlags_txRec (s : State) (x : Flags) : (s.setFlags x).txRec = s.txRec := rfl
@[simp] theorem setFlags_txCount (s : State) (x : Flags) : (s.setFlags x).txCount = s.txCount := rfl
@[simp] theorem setFlags_inp (s : State) (x : Flags) : (s.setFlags x).inp = s.inp := rfl
@[simp] theorem setFlags_out (s : State) (x : Flags) : (s.setFlags x).out = s.out := rfl
@[simp] theorem setFlags_env (s : State) (x : Flags) : (s.setFlags x).env = s.env := rfl
@[simp] theorem setFlags_draws (s : State) (x : Flags) : (s.setFlags x).draws = s.draws := rfl
@[simp] theorem setFlags_txSent (s : State) (x : Flags) : (s.setFlags x).txSent = s.txSent := rfl
@[simp] theorem setFlags_setFlags (s : State) (x y : Flags) : (s.setFlags x).setFlags y = s.setFlags y := rfl
@[simp] theorem setFlags_self (s : State) : s.setFlags s.flags = s := rfl

@[simp] theorem setPid_stage (s : State) (x : CruisePid) : (s.setPid x).stage = s.stage := rfl
@[simp] theorem setPid_tickMod4 (s : State) (x : CruisePid) : (s.setPid x).tickMod4 = s.tickMod4 := rfl
@[simp] theorem setPid_sensor (s : State) (x : CruisePid) : (s.setPid x).sensor = s.sensor := rfl
@[simp] theorem setPid_a (s : State) (x : CruisePid) : (s.setPid x).a = s.a := rfl
@[simp] theorem setPid_drv (s : State) (x : CruisePid) : (s.setPid x).drv = s.drv := rfl
@[simp] theorem setPid_iMax (s : State) (x : CruisePid) : (s.setPid x).iMax = s.iMax := rfl
@[simp] theorem setPid_csr (s : State) (x : CruisePid) : (s.setPid x).csr = s.csr := rfl
@[simp] theorem setPid_flags (s : State) (x : CruisePid) : (s.setPid x).flags = s.flags := rfl
@[simp] theorem setPid_pid (s : State) (x : CruisePid) : (s.setPid x).pid = x := rfl
@[simp] theorem setPid_filt (s : State) (x : CruisePid) : (s.setPid x).filt = s.filt := rfl
@[simp] theorem setPid_cnt (s : State) (x : CruisePid) : (s.setPid x).cnt = s.cnt := rfl
@[simp] theorem setPid_rxBuf (s : State) (x : CruisePid) : (s.setPid x).rxBuf = s.rxBuf := rfl
@[simp] theorem setPid_txRec (s : State) (x : CruisePid) : (s.setPid x).txRec = s.txRec := rfl
@[simp] theorem setPid_txCount (s : State) (x : CruisePid) : (s.setPid x).txCount = s.txCount := rfl
@[simp] theorem setPid_inp (s : State) (x : CruisePid) : (s.setPid x).inp = s.inp := rfl
@[simp] theorem setPid_out (s : State) (x : CruisePid) : (s.setPid x).out = s.out := rfl
@[simp] theorem setPid_env (s : State) (x : CruisePid) : (s.setPid x).env = s.env := rfl
@[simp] theorem setPid_draws (s : State) (x : CruisePid) : (s.setPid x).draws = s.draws := rfl
@[simp] theorem setPid_txSent (s : State) (x : CruisePid) : (s.setPid x).txSent = s.txSent := rfl
@[simp] theorem setPid_setPid (s : State) (x y : CruisePid) : (s.setPid x).setPid y = s.setPid y := rfl
@[simp] theorem setPid_self (s : State) : s.setPid s.pid = s := rfl

@[simp] theorem setFilt_stage (s : State) (x : Filters) : (s.setFilt x).stage = s.stage := rfl
@[simp] theorem setFilt_tickMod4 (s : State) (x : Filters) : (s.setFilt x).tickMod4 = s.tickMod4 := rfl
@[simp] theorem setFilt_sensor (s : State) (x : Filters) : (s.setFilt x).sensor = s.sensor := rfl
@[simp] theorem setFilt_a (s : State) (x : Filters) : (s.setFilt x).a = s.a := rfl
@[simp] theorem setFilt_drv (s : State) (x : Filters) : (s.setFilt x).drv = s.drv := rfl
@[simp] theorem setFilt_iMax (s : State) (x : Filters) : (s.setFilt x).iMax = s.iMax := rfl
@[simp] theorem setFilt_csr (s : State) (x : Filters) : (s.setFilt x).csr = s.csr := rfl
@[simp] theorem setFilt_flags (s : State) (x : Filters) : (s.setFilt x).flags = s.flags := rfl
@[simp] theorem setFilt_pid (s : State) (x : Filters) : (s.setFilt x).pid = s.pid := rfl
@[simp] theorem setFilt_filt (s : State) (x : Filters) : (s.setFilt x).filt = x := rfl
@[simp] theorem setFilt_cnt (s : State) (x : Filters) : (s.setFilt x).cnt = s.cnt := rfl
@[simp] theorem setFilt_rxBuf (s : State) (x : Filters) : (s.setFilt x).rxBuf = s.rxBuf := rfl
@[simp] theorem setFilt_txRec (s : State) (x : Filters) : (s.setFilt x).txRec = s.txRec := rfl
@[simp] theorem setFilt_txCount (s : State) (x : Filters) : (s.setFilt x).txCount = s.txCount := rfl
@[simp] theorem setFilt_inp (s : State) (x : Filters) : (s.setFilt x).inp = s.inp := rfl
@[simp] theorem setFilt_out (s : State) (x : Filters) : (s.setFilt x).out = s.out := rfl
@[simp] theorem setFilt_env (s : State) (x : Filters) : (s.setFilt x).env = s.env := rfl
@[simp] theorem setFilt_draws (s : State) (x : Filters) : (s.setFilt x).draws = s.draws := rfl
@[simp] theorem setFilt_txSent (s : State) (x : Filters) : (s.setFilt x).txSent = s.txSent := rfl
@[simp] theorem setFilt_setFilt (s : State) (x y : Filters) : (s.setFilt x).setFilt y = s.setFilt y := rfl
@[simp] theorem setFilt_self (s : State) : s.setFilt s.filt = s := rfl

@[simp] theorem setCnt_stage (s : State) (x : Counters) : (s.setCnt x).stage = s.stage := rfl
@[simp] theorem setCnt_tickMod4 (s : State) (x : Counters) : (s.setCnt x).tickMod4 = s.tickMod4 := rfl
@[simp] theorem setCnt_sensor (s : State) (x : Counters) : (s.setCnt x).sensor = s.sensor := rfl
@[simp] theorem setCnt_a (s : State) (x : Counters) : (s.setCnt x).a = s.a := rfl
@[simp] theorem setCnt_drv (s : State) (x : Counters) : (s.setCnt x).drv = s.drv := rfl
@[simp] theorem setCnt_iMax (s : State) (x : Counters) : (s.setCnt x).iMax = s.iMax := rfl
@[simp] theorem setCnt_csr (s : State) (x : Counters) : (s.setCnt x).csr = s.csr := rfl
@[simp] theorem setCnt_flags (s : State) (x : Counters) : (s.setCnt x).flags = s.flags := rfl
@[simp] theorem setCnt_pid (s : State) (x : Counters) : (s.setCnt x).pid = s.pid := rfl
@[simp] theorem setCnt_filt (s : State) (x : Counters) : (s.setCnt x).filt = s.filt := rfl
@[simp] theorem setCnt_cnt (s : State) (x : Counters) : (s.setCnt x).cnt = x := rfl
@[simp] theorem setCnt_rxBuf (s : State) (x : Counters) : (s.setCnt x).rxBuf = s.rxBuf := rfl
@[simp] theorem setCnt_txRec (s : State) (x : Counters) : (s.setCnt x).txRec = s.txRec := rfl
@[simp] theorem setCnt_txCount (s : State) (x : Counters) : (s.setCnt x).txCount = s.txCount := rfl
@[simp] theorem setCnt_inp (s : State) (x : Counters) : (s.setCnt x).inp = s.inp := rfl
@[simp] theorem setCnt_out (s : State) (x : Counters) : (s.setCnt x).out = s.out := rfl
@[simp] theorem setCnt_env (s : State) (x : Counters) : (s.setCnt x).env = s.env := rfl
@[simp] theorem setCnt_draws (s : State) (x : Counters) : (s.setCnt x).draws = s.draws := rfl
@[simp] theorem setCnt_txSent (s : State) (x : Counters) : (s.setCnt x).txSent = s.txSent := rfl
@[simp] theorem setCnt_setCnt (s : State) (x y : Counters) : (s.setCnt x).setCnt y = s.setCnt y := rfl
@[simp] theorem setCnt_self (s : State) : s.setCnt s.cnt = s := rfl

@[simp] theorem setRxBuf_stage (s : State) (x : Memory) : (s.setRxBuf x).stage = s.stage := rfl
@[simp] theorem setRxBuf_tickMod4 (s : State) (x : Memory) : (s.setRxBuf x).tickMod4 = s.tickMod4 := rfl
@[simp] theorem setRxBuf_sensor (s : State) (x : Memory) : (s.setRxBuf x).sensor = s.sensor := rfl
@[simp] theorem setRxBuf_a (s : State) (x : Memory) : (s.setRxBuf x).a = s.a := rfl
@[simp] theorem setRxBuf_drv (s : State) (x : Memory) : (s.setRxBuf x).drv = s.drv := rfl
@[simp] theorem setRxBuf_iMax (s : State) (x : Memory) : (s.setRxBuf x).iMax = s.iMax := rfl
@[simp] theorem setRxBuf_csr (s : State) (x : Memory) : (s.setRxBuf x).csr = s.csr := rfl
@[simp] theorem setRxBuf_flags (s : State) (x : Memory) : (s.setRxBuf x).flags = s.flags := rfl
@[simp] theorem setRxBuf_pid (s : State) (x : Memory) : (s.setRxBuf x).pid = s.pid := rfl
@[simp] theorem setRxBuf_filt (s : State) (x : Memory) : (s.setRxBuf x).filt = s.filt := rfl
@[simp] theorem setRxBuf_cnt (s : State) (x : Memory) : (s.setRxBuf x).cnt = s.cnt := rfl
@[simp] theorem setRxBuf_rxBuf (s : State) (x : Memory) : (s.setRxBuf x).rxBuf = x := rfl
@[simp] theorem setRxBuf_txRec (s : State) (x : Memory) : (s.setRxBuf x).txRec = s.txRec := rfl
@[simp] theorem setRxBuf_txCount (s : State) (x : Memory) : (s.setRxBuf x).txCount = s.txCount := rfl
@[simp] theorem setRxBuf_inp (s : State) (x : Memory) : (s.setRxBuf x).inp = s.inp := rfl
@[simp] theorem setRxBuf_out (s : State) (x : Memory) : (s.setRxBuf x).out = s.out := rfl
@[simp] theorem setRxBuf_env (s : State) (x : Memory) : (s.setRxBuf x).env = s.env := rfl
@[simp] theorem setRxBuf_draws (s : State) (x : Memory) : (s.setRxBuf x).draws = s.draws := rfl
@[simp] theorem setRxBuf_txSent (s : State) (x : Memory) : (s.setRxBuf x).txSent = s.txSent := rfl
@[simp] theorem setRxBuf_setRxBuf (s : State) (x y : Memory) : (s.setRxBuf x).setRxBuf y = s.setRxBuf y := rfl
@[simp] theorem setRxBuf_self (s : State) : s.setRxBuf s.rxBuf = s := rfl

@[simp] theorem setTxRec_stage (s : State) (x : TxRec) : (s.setTxRec x).stage = s.stage := rfl
@[simp] theorem setTxRec_tickMod4 (s : State) (x : TxRec) : (s.setTxRec x).tickMod4 = s.tickMod4 := rfl
@[simp] theorem setTxRec_sensor (s : State) (x : TxRec) : (s.setTxRec x).sensor = s.sensor := rfl
@[simp] theorem setTxRec_a (s : State) (x : TxRec) : (s.setTxRec x).a = s.a := rfl
@[simp] theorem setTxRec_drv (s : State) (x : TxRec) : (s.setTxRec x).drv = s.drv := rfl
@[simp] theorem setTxRec_iMax (s : State) (x : TxRec) : (s.setTxRec x).iMax = s.iMax := rfl
@[simp] theorem setTxRec_csr (s : State) (x : TxRec) : (s.setTxRec x).csr = s.csr := rfl
@[simp] theorem setTxRec_flags (s : State) (x : TxRec) : (s.setTxRec x).flags = s.flags := rfl
@[simp] theorem setTxRec_pid (s : State) (x : TxRec) : (s.setTxRec x).pid = s.pid := rfl
@[simp] theorem setTxRec_filt (s : State) (x : TxRec) : (s.setTxRec x).filt = s.filt := rfl
@[simp] theorem setTxRec_cnt (s : State) (x : TxRec) : (s.setTxRec x).cnt = s.cnt := rfl
@[simp] theorem setTxRec_rxBuf (s : State) (x : TxRec) : (s.setTxRec x).rxBuf = s.rxBuf := rfl
@[simp] theorem setTxRec_txRec (s : State) (x : TxRec) : (s.setTxRec x).txRec = x := rfl
@[simp] theorem setTxRec_txCount (s : State) (x : TxRec) : (s.setTxRec x).txCount = s.txCount := rfl
@[simp] theorem setTxRec_inp (s : State) (x : TxRec) : (s.setTxRec x).inp = s.inp := rfl
@[simp] theorem setTxRec_out (s : State) (x : TxRec) : (s.setTxRec x).out = s.out := rfl
@[simp] theorem setTxRec_env (s : State) (x : TxRec) : (s.setTxRec x).env = s.env := rfl
@[simp] theorem setTxRec_draws (s : State) (x : TxRec) : (s.setTxRec x).draws = s.draws := rfl
@[simp] theorem setTxRec_txSent (s : State) (x : TxRec) : (s.setTxRec x).txSent = s.txSent := rfl
@[simp] theorem setTxRec_setTxRec (s : State) (x y : TxRec) : (s.setTxRec x).setTxRec y = s.setTxRec y := rfl
@[simp] theorem setTxRec_self (s : State) : s.setTxRec s.txRec = s := rfl

@[simp] theorem setTxCount_stage (s : State) (x : Nat) : (s.setTxCount x).stage = s.stage := rfl
@[simp] theorem setTxCount_tickMod4 (s : State) (x : Nat) : (s.setTxCount x).tickMod4 = s.tickMod4 := rfl
@[simp] theorem setTxCount_sensor (s : State) (x : Nat) : (s.setTxCount x).sensor = s.sensor := rfl
@[simp] theorem setTxCount_a (s : State) (x : Nat) : (s.setTxCount x).a = s.a := rfl
@[simp] theorem setTxCount_drv (s : State) (x : Nat) : (s.setTxCount x).drv = s.drv := rfl
@[simp] theorem setTxCount_iMax (s : State) (x : Nat) : (s.setTxCount x).iMax = s.iMax := rfl
@[simp] theorem setTxCount_csr (s : State) (x : Nat) : (s.setTxCount x).csr = s.csr := rfl
@[simp] theorem setTxCount_flags (s : State) (x : Nat) : (s.setTxCount x).flags = s.flags := rfl
@[simp] theorem setTxCount_pid (s : State) (x : Nat) : (s.setTxCount x).pid = s.pid := rfl
@[simp] theorem setTxCount_filt (s : State) (x : Nat) : (s.setTxCount x).filt = s.filt := rfl
@[simp] theorem setTxCount_cnt (s : State) (x : Nat) : (s.setTxCount x).cnt = s.cnt := rfl
@[simp] theorem setTxCount_rxBuf (s : State) (x : Nat) : (s.setTxCount x).rxBuf = s.rxBuf := rfl
@[simp] theorem setTxCount_txRec (s : State) (x : Nat) : (s.setTxCount x).txRec = s.txRec := rfl
@[simp] theorem setTxCount_txCount (s : State) (x : Nat) : (s.setTxCount x).txCount = x := rfl
@[simp] theorem setTxCount_inp (s : State) (x : Nat) : (s.setTxCount x).inp = s.inp := rfl
@[simp] theorem setTxCount_out (s : State) (x : Nat) : (s.setTxCount x).out = s.out := rfl
@[simp] theorem setTxCount_env (s : State) (x : Nat) : (s.setTxCount x).env = s.env := rfl
@[simp] theorem setTxCount_draws (s : State) (x : Nat) : (s.setTxCount x).draws = s.draws := rfl
@[simp] theorem setTxCount_txSent (s : State) (x : Nat) : (s.setTxCount x).txSent = s.txSent := rfl
@[simp] theorem setTxCount_setTxCount (s : State) (x y : Nat) : (s.setTxCount x).setTxCount y = s.setTxCount y := rfl
@[simp] theorem setTxCount_self (s : State) : s.setTxCount s.txCount = s := rfl

@[simp] theorem setInp_stage (s : State) (x : Inputs) : (s.setInp x).stage = s.stage := rfl
@[simp] theorem setInp_tickMod4 (s : State) (x : Inputs) : (s.setInp x).tickMod4 = s.tickMod4 := rfl
@[simp] theorem setInp_sensor (s : State) (x : Inputs) : (s.setInp x).sensor = s.sensor := rfl
@[simp] theorem setInp_a (s : State) (x : Inputs) : (s.setInp x).a = s.a := rfl
@[simp] theorem setInp_drv (s : State) (x : Inputs) : (s.setInp x).drv = s.drv := rfl
@[simp] theorem setInp_iMax (s : State) (x : Inputs) : (s.setInp x).iMax = s.iMax := rfl
@[simp] theorem setInp_csr (s : State) (x : Inputs) : (s.setInp x).csr = s.csr := rfl
@[simp] theorem setInp_flags (s : State) (x : Inputs) : (s.setInp x).flags = s.flags := rfl
@[simp] theorem setInp_pid (s : State) (x : Inputs) : (s.setInp x).pid = s.pid := rfl
@[simp] theorem setInp_filt (s : State) (x : Inputs) : (s.setInp x).filt = s.filt := rfl
@[simp] theorem setInp_cnt (s : State) (x : Inputs) : (s.setInp x).cnt = s.cnt := rfl
@[simp] theorem setInp_rxBuf (s : State) (x : Inputs) : (s.setInp x).rxBuf = s.rxBuf := rfl
@[simp] theorem setInp_txRec (s : State) (x : Inputs) : (s.setInp x).txRec = s.txRec := rfl
@[simp] theorem setInp_txCount (s : State) (x : Inputs) : (s.setInp x).txCount = s.txCount := rfl
@[simp] theorem setInp_inp (s : State) (x : Inputs) : (s.setInp x).inp = x := rfl
@[simp] theorem setInp_out (s : State) (x : Inputs) : (s.setInp x).out = s.out := rfl
@[simp] theorem setInp_env (s : State) (x : Inputs) : (s.setInp x).env = s.env := rfl
@[simp] theorem setInp_draws (s : State) (x : Inputs) : (s.setInp x).draws = s.draws := rfl
@[simp] theorem setInp_txSent (s : State) (x : Inputs) : (s.setInp x).txSent = s.txSent := rfl
@[simp] theorem setInp_setInp (s : State) (x y : Inputs) : (s.setInp x).setInp y = s.setInp y := rfl
@[simp] theorem setInp_self (s : State) : s.setInp s.inp = s := rfl

@[simp] theorem setOut_stage (s : State) (x : Strobes) : (s.setOut x).stage = s.stage := rfl
@[simp] theorem setOut_tickMod4 (s : State) (x : Strobes) : (s.setOut x).tickMod4 = s.tickMod4 := rfl
@[simp] theorem setOut_sensor (s : State) (x : Strobes) : (s.setOut x).sensor = s.sensor := rfl
@[simp] theorem setOut_a (s : State) (x : Strobes) : (s.setOut x).a = s.a := rfl
@[simp] theorem setOut_drv (s : State) (x : Strobes) : (s.setOut x).drv = s.drv := rfl
@[simp] theorem setOut_iMax (s : State) (x : Strobes) : (s.setOut x).iMax = s.iMax := rfl
@[simp] theorem setOut_csr (s : State) (x : Strobes) : (s.setOut x).csr = s.csr := rfl
@[simp] theorem setOut_flags (s : State) (x : Strobes) : (s.setOut x).flags = s.flags := rfl
@[simp] theorem setOut_pid (s : State) (x : Strobes) : (s.setOut x).pid = s.pid := rfl
@[simp] theorem setOut_filt (s : State) (x : Strobes) : (s.setOut x).filt = s.filt := rfl
@[simp] theorem setOut_cnt (s : State) (x : Strobes) : (s.setOut x).cnt = s.cnt := rfl
@[simp] theorem setOut_rxBuf (s : State) (x : Strobes) : (s.setOut x).rxBuf = s.rxBuf := rfl
@[simp] theorem setOut_txRec (s : State) (x : Strobes) : (s.setOut x).txRec = s.txRec := rfl
@[simp] theorem setOut_txCount (s : State) (x : Strobes) : (s.setOut x).txCount = s.txCount := rfl
@[simp] theorem setOut_inp (s : State) (x : Strobes) : (s.setOut x).inp = s.inp := rfl
@[simp] theorem setOut_out (s : State) (x : Strobes) : (s.setOut x).out = x := rfl
@[simp] theorem setOut_env (s : State) (x : Strobes) : (s.setOut x).env = s.env := rfl
@[simp] theorem setOut_draws (s : State) (x : Strobes) : (s.setOut x).draws = s.draws := rfl
@[simp] theorem setOut_txSent (s : State) (x : Strobes) : (s.setOut x).txSent = s.txSent := rfl
@[simp] theorem setOut_setOut (s : State) (x y : Strobes) : (s.setOut x).setOut y = s.setOut y := rfl
@[simp] theorem setOut_self (s : State) : s.setOut s.out = s := rfl

@[simp] theorem setEnv_stage (s : State) (x : List Event) : (s.setEnv x).stage = s.stage := rfl
@[simp] theorem setEnv_tickMod4 (s : State) (x : List Event) : (s.setEnv x).tickMod4 = s.tickMod4 := rfl
@[simp] theorem setEnv_sensor (s : State) (x : List Event) : (s.setEnv x).sensor = s.sensor := rfl
@[simp] theorem setEnv_a (s : State) (x : List Event) : (s.setEnv x).a = s.a := rfl
@[simp] theorem setEnv_drv (s : State) (x : List Event) : (s.setEnv x).drv = s.drv := rfl
@[simp] theorem setEnv_iMax (s : State) (x : List Event) : (s.setEnv x).iMax = s.iMax := rfl
@[simp] theorem setEnv_csr (s : State) (x : List Event) : (s.setEnv x).csr = s.csr := rfl
@[simp] theorem setEnv_flags (s : State) (x : List Event) : (s.setEnv x).flags = s.flags := rfl
@[simp] theorem setEnv_pid (s : State) (x : List Event) : (s.setEnv x).pid = s.pid := rfl
@[simp] theorem setEnv_filt (s : State) (x : List Event) : (s.setEnv x).filt = s.filt := rfl
@[simp] theorem setEnv_cnt (s : State) (x : List Event) : (s.setEnv x).cnt = s.cnt := rfl
@[simp] theorem setEnv_rxBuf (s : State) (x : List Event) : (s.setEnv x).rxBuf = s.rxBuf := rfl
@[simp] theorem setEnv_txRec (s : State) (x : List Event) : (s.setEnv x).txRec = s.txRec := rfl
@[simp] theorem setEnv_txCount (s : State) (x : List Event) : (s.setEnv x).txCount = s.txCount := rfl
@[simp] theorem setEnv_inp (s : State) (x : List Event) : (s.setEnv x).inp = s.inp := rfl
@[simp] theorem setEnv_out (s : State) (x : List Event) : (s.setEnv x).out = s.out := rfl
@[simp] theorem setEnv_env (s : State) (x : List Event) : (s.setEnv x).env = x := rfl
@[simp] theorem setEnv_draws (s : State) (x : List Event) : (s.setEnv x).draws = s.draws := rfl
@[simp] theorem setEnv_txSent (s : State) (x : List Event) : (s.setEnv x).txSent = s.txSent := rfl
@[simp] theorem setEnv_setEnv (s : State) (x y : List Event) : (s.setEnv x).setEnv y = s.setEnv y := rfl
@[simp] theorem setEnv_self (s : State) : s.setEnv s.env = s := rfl

@[simp] theorem setDraws_stage (s : State) (x : Nat) : (s.setDraws x).stage = s.stage := rfl
@[simp] theorem setDraws_tickMod4 (s : State) (x : Nat) : (s.setDraws x).tickMod4 = s.tickMod4 := rfl
@[simp] theorem setDraws_sensor (s : State) (x : Nat) : (s.setDraws x).sensor = s.sensor := rfl
@[simp] theorem setDraws_a (s : State) (x : Nat) : (s.setDraws x).a = s.a := rfl
@[simp] theorem setDraws_drv (s : State) (x : Nat) : (s.setDraws x).drv = s.drv := rfl
@[simp] theorem setDraws_iMax (s : State) (x : Nat) : (s.setDraws x).iMax = s.iMax := rfl
@[simp] theorem setDraws_csr (s : State) (x : Nat) : (s.setDraws x).csr = s.csr := rfl
@[simp] theorem setDraws_flags (s : State) (x : Nat) : (s.setDraws x).flags = s.flags := rfl
@[simp] theorem setDraws_pid (s : State) (x : Nat) : (s.setDraws x).pid = s.pid := rfl
@[simp] theorem setDraws_filt (s : State) (x : Nat) : (s.setDraws x).filt = s.filt := rfl
@[simp] theorem setDraws_cnt (s : State) (x : Nat) : (s.setDraws x).cnt = s.cnt := rfl
@[simp] theorem setDraws_rxBuf (s : State) (x : Nat) : (s.setDraws x).rxBuf = s.rxBuf := rfl
@[simp] theorem setDraws_txRec (s : State) (x : Nat) : (s.setDraws x).txRec = s.txRec := rfl
@[simp] theorem setDraws_txCount (s : State) (x : Nat) : (s.setDraws x).txCount = s.txCount := rfl
@[simp] theorem setDraws_inp (s : State) (x : Nat) : (s.setDraws x).inp = s.inp := rfl
@[simp] theorem setDraws_out (s : State) (x : Nat) : (s.setDraws x).out = s.out := rfl
@[simp] theorem setDraws_env (s : State) (x : Nat) : (s.setDraws x).env = s.env := rfl
@[simp] theorem setDraws_draws (s : State) (x : Nat) : (s.setDraws x).draws = x := rfl
@[simp] theorem setDraws_txSent (s : State) (x : Nat) : (s.setDraws x).txSent = s.txSent := rfl
@[simp] theorem setDraws_setDraws (s : State) (x y : Nat) : (s.setDraws x).setDraws y = s.setDraws y := rfl
@[simp] theorem setDraws_self (s : State) : s.setDraws s.draws = s := rfl

@[simp] theorem setTxSent_stage (s : State) (x : Option Byte) : (s.setTxSent x).stage = s.stage := rfl
@[simp] theorem setTxSent_tickMod4 (s : State) (x : Option Byte) : (s.setTxSent x).tickMod4 = s.tickMod4 := rfl
@[simp] theorem setTxSent_sensor (s : State) (x : Option Byte) : (s.setTxSent x).sensor = s.sensor := rfl
@[simp] theorem setTxSent_a (s : State) (x : Option Byte) : (s.setTxSent x).a = s.a := rfl
@[simp] theorem setTxSent_drv (s : State) (x : Option Byte) : (s.setTxSent x).drv = s.drv := rfl
@[simp] theorem setTxSent_iMax (s : State) (x : Option Byte) : (s.setTxSent x).iMax = s.iMax := rfl
@[simp] theorem setTxSent_csr (s : State) (x : Option Byte) : (s.setTxSent x).csr = s.csr := rfl
@[simp] theorem setTxSent_flags (s : State) (x : Option Byte) : (s.setTxSent x).flags = s.flags := rfl
@[simp] theorem setTxSent_pid (s : State) (x : Option Byte) : (s.setTxSent x).pid = s.pid := rfl
@[simp] theorem setTxSent_filt (s : State) (x : Option Byte) : (s.setTxSent x).filt = s.filt := rfl
@[simp] theorem setTxSent_cnt (s : State) (x : Option Byte) : (s.setTxSent x).cnt = s.cnt := rfl
@[simp] theorem setTxSent_rxBuf (s : State) (x : Option Byte) : (s.setTxSent x).rxBuf = s.rxBuf := rfl
@[simp] theorem setTxSent_txRec (s : State) (x : Option Byte) : (s.setTxSent x).txRec = s.txRec := rfl
@[simp] theorem setTxSent_txCount (s : State) (x : Option Byte) : (s.setTxSent x).txCount = s.txCount := rfl
@[simp] theorem setTxSent_inp (s : State) (x : Option Byte) : (s.setTxSent x).inp = s.inp := rfl
@[simp] theorem setTxSent_out (s : State) (x : Option Byte) : (s.setTxSent x).out = s.out := rfl
@[simp] theorem setTxSent_env (s : State) (x : Option Byte) : (s.setTxSent x).env = s.env := rfl
@[simp] theorem setTxSent_draws (s : State) (x : Option Byte) : (s.setTxSent x).draws = s.draws := rfl
@[simp] theorem setTxSent_txSent (s : State) (x : Option Byte) : (s.setTxSent x).txSent = x := rfl
@[simp] theorem setTxSent_setTxSent (s : State) (x y : Option Byte) : (s.setTxSent x).setTxSent y = s.setTxSent y := rfl
@[simp] theorem setTxSent_self (s : State) : s.setTxSent s.txSent = s := rfl

/-- Two states with equal fields are equal. -/
theorem State.ext_fields {s t : State}
    (h_stage : s.stage = t.stage)
    (h_tickMod4 : s.tickMod4 = t.tickMod4)
    (h_sensor : s.sensor = t.sensor)
    (h_a : s.a = t.a)
    (h_drv : s.drv = t.drv)
    (h_iMax : s.iMax = t.iMax)
    (h_csr : s.csr = t.csr)
    (h_flags : s.flags = t.flags)
    (h_pid : s.pid = t.pid)
    (h_filt : s.filt = t.filt)
    (h_cnt : s.cnt = t.cnt)
    (h_rxBuf : s.rxBuf = t.rxBuf)
    (h_txRec : s.txRec = t.txRec)
    (h_txCount : s.txCount = t.txCount)
    (h_inp : s.inp = t.inp)
    (h_out : s.out = t.out)
    (h_env : s.env = t.env)
    (h_draws : s.draws = t.draws)
    (h_txSent : s.txSent = t.txSent) : s = t := by
  cases s; cases t; simp_all

end Sys2Proof.Machine
end

