-- ==== Sys2Proof/Laws/Memory.lean ====
section
/-! SUPPORT. The laws of the RX space: a read after a write, the canonical form kept by every operation, and equal
contents being equal data (spec/20_memory.md R66 to R68). -/

namespace Sys2Proof.Machine

theorem wfFrom_cons {lo hi a : Nat} {b : Byte} {m : Memory} :
    Memory.wfFrom lo hi ((a, b) :: m) = true ↔ lo ≤ a ∧ a < hi ∧ b ≠ 0 ∧ Memory.wfFrom (a + 1) hi m = true := by
  simp [Memory.wfFrom, and_assoc]

/-- A canonical memory has no byte below its first address. -/
theorem read_below {lo hi k : Nat} {m : Memory} (h : Memory.wfFrom lo hi m = true) (hk : k < lo) :
    Memory.read k m = 0 := by
  induction m generalizing lo with
  | nil => rfl
  | cons c m ih =>
    obtain ⟨a, b⟩ := c
    obtain ⟨h1, -, -, h4⟩ := wfFrom_cons.mp h
    have : a ≠ k := by omega
    simp only [Memory.read, this, if_false]
    exact ih h4 (by omega)

theorem wfFrom_weaken {lo lo' hi : Nat} {m : Memory} (h : Memory.wfFrom lo hi m = true) (hl : lo' ≤ lo) :
    Memory.wfFrom lo' hi m = true := by
  cases m with
  | nil => rfl
  | cons c m =>
    obtain ⟨a, b⟩ := c
    obtain ⟨h1, h2, h3, h4⟩ := wfFrom_cons.mp h
    exact wfFrom_cons.mpr ⟨by omega, h2, h3, h4⟩

/-- A write keeps the canonical form. -/
theorem write_wfFrom {lo hi k : Nat} {b : Byte} {m : Memory} (h : Memory.wfFrom lo hi m = true) (h1 : lo ≤ k)
    (h2 : k < hi) : Memory.wfFrom lo hi (Memory.write k b m) = true := by
  induction m generalizing lo with
  | nil =>
    simp only [Memory.write]
    split_ifs with hb
    · rfl
    · exact wfFrom_cons.mpr ⟨h1, h2, hb, rfl⟩
  | cons c m ih =>
    obtain ⟨a, c⟩ := c
    obtain ⟨g1, g2, g3, g4⟩ := wfFrom_cons.mp h
    simp only [Memory.write]
    split_ifs with c1 c2 c3 c4
    · exact wfFrom_cons.mpr ⟨g1, g2, g3, ih g4 (by omega)⟩
    · exact wfFrom_weaken g4 (by omega)
    · exact wfFrom_cons.mpr ⟨h1, h2, c3, c2 ▸ g4⟩
    · exact h
    · exact wfFrom_cons.mpr ⟨h1, h2, c4, wfFrom_cons.mpr ⟨by omega, g2, g3, g4⟩⟩

/-- A read gives what was written there. -/
theorem read_write_same {lo hi k : Nat} {b : Byte} {m : Memory} (h : Memory.wfFrom lo hi m = true) :
    Memory.read k (Memory.write k b m) = b := by
  induction m generalizing lo with
  | nil =>
    simp only [Memory.write]
    split_ifs with hb
    · exact hb.symm
    · simp [Memory.read]
  | cons c m ih =>
    obtain ⟨a, c⟩ := c
    obtain ⟨g1, g2, g3, g4⟩ := wfFrom_cons.mp h
    simp only [Memory.write]
    split_ifs with c1 c2 c3 c4
    · have : a ≠ k := by omega
      simp only [Memory.read, this, if_false]
      exact ih g4
    · rw [c3]; exact read_below g4 (by omega)
    · simp [Memory.read]
    · rw [c4]; exact read_below (lo := a) (wfFrom_cons.mpr ⟨le_refl _, g2, g3, g4⟩) (by omega)
    · simp [Memory.read]

/-- A write leaves every other address alone. -/
theorem read_write_ne {j k : Nat} {b : Byte} {m : Memory} (h : j ≠ k) :
    Memory.read j (Memory.write k b m) = Memory.read j m := by
  have hk : k ≠ j := fun e => h e.symm
  induction m with
  | nil => simp only [Memory.write]; split_ifs <;> simp [Memory.read, hk]
  | cons c m ih =>
    obtain ⟨a, c⟩ := c
    simp only [Memory.write]
    split_ifs with c1 c2 c3 c4
    · simp only [Memory.read, ih]
    · subst c2; simp [Memory.read, hk]
    · subst c2; simp [Memory.read, hk]
    · rfl
    · simp [Memory.read, hk]

theorem writeBytes_wfFrom {lo hi k : Nat} {bs : List Byte} {m : Memory} (h : Memory.wfFrom lo hi m = true)
    (h1 : lo ≤ k) (h2 : k + bs.length ≤ hi) : Memory.wfFrom lo hi (Memory.writeBytes k bs m) = true := by
  induction bs generalizing k m with
  | nil => exact h
  | cons b bs ih =>
    rw [List.length_cons] at h2
    exact ih (write_wfFrom h h1 (by omega)) (by omega) (by omega)

/-- Reading after several bytes were written: the byte written there, or what was there before. -/
theorem read_writeBytes {hi j k : Nat} {bs : List Byte} {m : Memory} (h : Memory.wfFrom 0 hi m = true)
    (h2 : k + bs.length ≤ hi) :
    Memory.read j (Memory.writeBytes k bs m)
      = if hj : k ≤ j ∧ j < k + bs.length then bs[j - k]'(by omega) else Memory.read j m := by
  induction bs generalizing k m with
  | nil =>
    simp only [Memory.writeBytes, List.length_nil]
    rw [dif_neg (by omega)]
  | cons b bs ih =>
    rw [List.length_cons] at h2
    simp only [Memory.writeBytes]
    rw [ih (write_wfFrom h (by omega) (by omega)) (by omega)]
    by_cases h1 : k + 1 ≤ j ∧ j < k + 1 + bs.length
    · rw [dif_pos h1, dif_pos (by rw [List.length_cons]; omega)]
      have e : j - k = (j - (k + 1)) + 1 := by omega
      simp only [e, List.getElem_cons_succ]
    · rw [dif_neg h1]
      by_cases h3 : j = k
      · subst h3
        rw [read_write_same h, dif_pos (by rw [List.length_cons]; omega)]
        simp
      · rw [read_write_ne h3, dif_neg (by rw [List.length_cons]; omega)]

/-- Canonical memories with the same contents are the same data. -/
theorem memory_ext {lo hi : Nat} {m n : Memory} (hm : Memory.wfFrom lo hi m = true)
    (hn : Memory.wfFrom lo hi n = true) (h : ∀ k, Memory.read k m = Memory.read k n) : m = n := by
  induction m generalizing lo n with
  | nil =>
    cases n with
    | nil => rfl
    | cons c n =>
      obtain ⟨a, c⟩ := c
      have := h a
      simp [Memory.read] at this
      exact absurd this.symm (wfFrom_cons.mp hn).2.2.1
  | cons b m ih =>
    obtain ⟨a, b⟩ := b
    obtain ⟨g1, g2, g3, g4⟩ := wfFrom_cons.mp hm
    cases n with
    | nil =>
      have := h a
      simp [Memory.read] at this
      exact absurd this g3
    | cons c n =>
      obtain ⟨a', c⟩ := c
      obtain ⟨f1, f2, f3, f4⟩ := wfFrom_cons.mp hn
      have e : a = a' := by
        rcases Nat.lt_trichotomy a a' with l | l | l
        · have := h a
          rw [read_below (lo := a') (wfFrom_cons.mpr ⟨le_refl _, f2, f3, f4⟩) l] at this
          simp [Memory.read] at this
          exact absurd this g3
        · exact l
        · have := h a'
          rw [read_below (lo := a) (wfFrom_cons.mpr ⟨le_refl _, g2, g3, g4⟩) l] at this
          simp [Memory.read] at this
          exact absurd this.symm f3
      subst e
      have eb : b = c := by have := h a; simpa [Memory.read] using this
      subst eb
      refine congrArg _ (ih g4 f4 fun k => ?_)
      by_cases hk : a = k
      · subst hk; rw [read_below g4 (by omega), read_below f4 (by omega)]
      · have := h k; simpa [Memory.read, hk] using this

/-- A frame stored in a canonical RX space: it stays canonical. -/
theorem storeFrame_wf {f : Vector Byte 13} {s : State} (h : Memory.wf s.rxBuf = true) :
    Memory.wf (storeFrame f s).rxBuf = true := by
  simp only [storeFrame, setRxBuf_rxBuf]
  exact writeBytes_wfFrom h (by omega) (by simp)

/-- Byte `k` of the receive buffer after a frame was stored. -/
theorem rxByte_storeFrame {f : Vector Byte 13} {s : State} {k : Nat} (h : Memory.wf s.rxBuf = true) (hk : k < 13) :
    (storeFrame f s).rxByte k = f[k] := by
  simp only [State.rxByte, storeFrame, setRxBuf_rxBuf]
  rw [read_writeBytes h (by simp), dif_pos (by simp; omega)]
  simp

/-- What was stored is what COMM reads. -/
theorem rxFrame_storeFrame {f : Vector Byte 13} {s : State} (h : Memory.wf s.rxBuf = true) :
    rxFrame (storeFrame f s) = f := by
  ext i hi
  simp only [rxFrame]
  have e := fun k hk => rxByte_storeFrame (f := f) (s := s) (k := k) h hk
  interval_cases i <;> simp [e]

end Sys2Proof.Machine
end

