-- ==== Sys2Proof/Laws/Ops.lean ====
section
/-! SUPPORT. What each shared operation does to the state, said once: its result as an update of the fields it
writes, or what it leaves alone. -/

namespace Sys2Proof.Machine

/-! ### The epilogues of the assist laws -/

/-- `set_current` writes the current target, and the duty target when a current is requested. -/
theorem setCurrent_eq (P : Params) (i : Nat) (s : State) :
    setCurrent P i s = s.setA { s.a with
      iTarget := min i s.iMax, dutyTarget := if min i s.iMax ≠ 0 then P.dutyMax else s.a.dutyTarget } := rfl

@[simp] theorem rampShape_iTarget (P : Params) (c : Nat) (s : State) : (rampShape P c s).a.iTarget = s.a.iTarget := rfl
@[simp] theorem rampShape_dutyTarget (P : Params) (c : Nat) (s : State) :
    (rampShape P c s).a.dutyTarget = s.a.dutyTarget := rfl

/-- `ramp_shape` writes AssistOutput only. -/
theorem rampShape_eq (P : Params) (c : Nat) (s : State) : rampShape P c s = s.setA (rampShape P c s).a := rfl

/-! ### Payload pairs -/

@[simp] theorem cfgApply_mode (c : Csr) (w : CfgWrite) : (cfgApply c w).mode = c.mode := by cases w <;> rfl
@[simp] theorem cfgApply_param (c : Csr) (w : CfgWrite) : (cfgApply c w).param = c.param := by cases w <;> rfl
@[simp] theorem cfgApply_lights (c : Csr) (w : CfgWrite) : (cfgApply c w).lights = c.lights := by cases w <;> rfl
@[simp] theorem cfgApply_fault (c : Csr) (w : CfgWrite) : (cfgApply c w).fault = c.fault := by cases w <;> rfl

/-- A register view that no pair of a list touches is unchanged by the list. -/
theorem foldl_cfgApply_keeps {α : Type} (g : Csr → α) {ws : List CfgWrite}
    (h : ∀ w, w ∈ ws → ∀ c, g (cfgApply c w) = g c) (c : Csr) : g (ws.foldl cfgApply c) = g c := by
  induction ws generalizing c with
  | nil => rfl
  | cons w ws ih =>
    rw [List.foldl_cons, ih (fun v hv => h v (List.mem_cons_of_mem _ hv)), h w (List.mem_cons_self ..)]

/-- A group write changes only registers named by the pairs of its group. -/
theorem cfgApplyGroup_keeps {α : Type} (g : Csr → α) {lo hi : Nat} {ws : List CfgWrite}
    (h : ∀ w, lo ≤ cfgReg w → cfgReg w ≤ hi → ∀ c, g (cfgApply c w) = g c) (c : Csr) :
    g (cfgApplyGroup lo hi ws c) = g c :=
  foldl_cfgApply_keeps g (fun w hw c => by
    have := (List.mem_filter.mp hw).2
    simp only [Bool.and_eq_true, decide_eq_true_eq] at this
    exact h w this.1 this.2 c) c

@[simp] theorem cfgApplyGroup_mode (lo hi : Nat) (ws : List CfgWrite) (c : Csr) :
    (cfgApplyGroup lo hi ws c).mode = c.mode := cfgApplyGroup_keeps (·.mode) (fun w _ _ c => cfgApply_mode c w) c
@[simp] theorem cfgApplyGroup_param (lo hi : Nat) (ws : List CfgWrite) (c : Csr) :
    (cfgApplyGroup lo hi ws c).param = c.param := cfgApplyGroup_keeps (·.param) (fun w _ _ c => cfgApply_param c w) c
@[simp] theorem cfgApplyGroup_lights (lo hi : Nat) (ws : List CfgWrite) (c : Csr) :
    (cfgApplyGroup lo hi ws c).lights = c.lights := cfgApplyGroup_keeps (·.lights) (fun w _ _ c => cfgApply_lights c w) c
@[simp] theorem cfgApplyGroup_fault (lo hi : Nat) (ws : List CfgWrite) (c : Csr) :
    (cfgApplyGroup lo hi ws c).fault = c.fault := cfgApplyGroup_keeps (·.fault) (fun w _ _ c => cfgApply_fault c w) c
/-- c8 is not written by a group it is not in. -/
theorem cfgApplyGroup_iMaxAdc {lo hi : Nat} (h : 8 < lo ∨ hi < 8) (ws : List CfgWrite) (c : Csr) :
    (cfgApplyGroup lo hi ws c).iMaxAdc = c.iMaxAdc :=
  cfgApplyGroup_keeps (·.iMaxAdc) (fun w h1 h2 c => by cases w <;> simp_all [cfgReg, cfgApply]; omega) c
/-- c9 is not written by a group it is not in. -/
theorem cfgApplyGroup_pMaxW {lo hi : Nat} (h : 9 < lo ∨ hi < 9) (ws : List CfgWrite) (c : Csr) :
    (cfgApplyGroup lo hi ws c).pMaxW = c.pMaxW :=
  cfgApplyGroup_keeps (·.pMaxW) (fun w h1 h2 c => by cases w <;> simp_all [cfgReg, cfgApply]; omega) c
/-- c10 is not written by a group it is not in. -/
theorem cfgApplyGroup_wheelPerimeterMm {lo hi : Nat} (h : 10 < lo ∨ hi < 10) (ws : List CfgWrite) (c : Csr) :
    (cfgApplyGroup lo hi ws c).wheelPerimeterMm = c.wheelPerimeterMm :=
  cfgApplyGroup_keeps (·.wheelPerimeterMm) (fun w h1 h2 c => by cases w <;> simp_all [cfgReg, cfgApply]; omega) c
/-- c11 is not written by a group it is not in. -/
theorem cfgApplyGroup_maxSpeedKmh {lo hi : Nat} (h : 11 < lo ∨ hi < 11) (ws : List CfgWrite) (c : Csr) :
    (cfgApplyGroup lo hi ws c).maxSpeedKmh = c.maxSpeedKmh :=
  cfgApplyGroup_keeps (·.maxSpeedKmh) (fun w h1 h2 c => by cases w <;> simp_all [cfgReg, cfgApply]; omega) c
/-- c12 is not written by a group it is not in. -/
theorem cfgApplyGroup_torquePerStepX100 {lo hi : Nat} (h : 12 < lo ∨ hi < 12) (ws : List CfgWrite) (c : Csr) :
    (cfgApplyGroup lo hi ws c).torquePerStepX100 = c.torquePerStepX100 :=
  cfgApplyGroup_keeps (·.torquePerStepX100) (fun w h1 h2 c => by cases w <;> simp_all [cfgReg, cfgApply]; omega) c
/-- c13 is not written by a group it is not in. -/
theorem cfgApplyGroup_awprThreshold {lo hi : Nat} (h : 13 < lo ∨ hi < 13) (ws : List CfgWrite) (c : Csr) :
    (cfgApplyGroup lo hi ws c).awprThreshold = c.awprThreshold :=
  cfgApplyGroup_keeps (·.awprThreshold) (fun w h1 h2 c => by cases w <;> simp_all [cfgReg, cfgApply]; omega) c
/-- c14 is not written by a group it is not in. -/
theorem cfgApplyGroup_optFunction {lo hi : Nat} (h : 14 < lo ∨ hi < 14) (ws : List CfgWrite) (c : Csr) :
    (cfgApplyGroup lo hi ws c).optFunction = c.optFunction :=
  cfgApplyGroup_keeps (·.optFunction) (fun w h1 h2 c => by cases w <;> simp_all [cfgReg, cfgApply]; omega) c
/-- c15 is not written by a group it is not in. -/
theorem cfgApplyGroup_tempMin {lo hi : Nat} (h : 15 < lo ∨ hi < 15) (ws : List CfgWrite) (c : Csr) :
    (cfgApplyGroup lo hi ws c).tempMin = c.tempMin :=
  cfgApplyGroup_keeps (·.tempMin) (fun w h1 h2 c => by cases w <;> simp_all [cfgReg, cfgApply]; omega) c
/-- c16 is not written by a group it is not in. -/
theorem cfgApplyGroup_tempMax {lo hi : Nat} (h : 16 < lo ∨ hi < 16) (ws : List CfgWrite) (c : Csr) :
    (cfgApplyGroup lo hi ws c).tempMax = c.tempMax :=
  cfgApplyGroup_keeps (·.tempMax) (fun w h1 h2 c => by cases w <;> simp_all [cfgReg, cfgApply]; omega) c

/-! ### Faults -/

/-- Raising MotorBlocked writes the latch and the two counters (spec/60_exceptions.md R362). -/
theorem raiseMotorBlocked_eq (s : State) : raiseMotorBlocked s =
    (s.setFlags { s.flags with mbFault := true }).setCnt { s.cnt with mbCount := 0, mbResetCount := 0 } := rfl

/-- Committing the safe tuple writes the drive registers only. -/
theorem commitSafe_eq (P : Params) (s : State) : commitSafe P s = s.setDrv (safeTuple P) := rfl

/-! ### Transport -/

@[simp] theorem txImage_length (r : TxBody) : (txImage r).length = 27 := by simp [txImage]

@[simp] theorem txFrame_length (r : TxRec) : (txFrame r).length = 29 := by simp [txFrame]

/-- What is known of the 29 bytes: the 27 the CRC covers, of which the first is the start byte, then the CRC, low byte
first. -/
theorem txFrame_bytes (r : TxRec) : (txFrame r).take 27 = txImage r.body ∧ (txFrame r)[0]? = some r.body.start ∧
    (txFrame r)[27]? = some (lowByte r.crc) ∧ (txFrame r)[28]? = some (highByte r.crc) := by
  refine ⟨List.take_left' (txImage_length _), rfl, ?_, ?_⟩ <;> simp [txFrame]

/-- While a byte is left the TX agent has one to take, the one at the place the count gives. -/
theorem nextTxByte_some {s : State} (h : s.txCount ≠ 0) :
    ∃ b, nextTxByte s = some b ∧ (txFrame s.txRec)[29 - s.txCount]? = some b :=
  ⟨(txFrame s.txRec)[29 - s.txCount]'(by rw [txFrame_length]; omega),
   List.getElem?_eq_getElem _, List.getElem?_eq_getElem _⟩

/-- A send writes the record, the count and the draw counter, and only when nothing is in flight. -/
theorem send_cases (P : Params) (s : State) :
    (s.txCount ≠ 0 ∧ send P s = s) ∨
    (s.txCount = 0 ∧ ∃ r, send P s = ((s.setTxRec r).setTxCount 29).setDraws (s.draws + 1) ∧ r.body = txBody s
      ∧ r.crc = P.crc16 (txImage r.body)) := by
  unfold send
  split_ifs with h
  · exact .inr ⟨h, _, rfl, rfl, rfl⟩
  · exact .inl ⟨h, rfl⟩

/-- The loss detector: the count restarts, goes on, or reaches its limit and forces Off. -/
theorem detectLoss_cases (P : Params) (b : Bool) (s : State) :
    (b = true ∧ detectLoss P b s = s.setCnt { s.cnt with commLossCount := 0 }) ∨
    (b = false ∧ s.cnt.commLossCount + 1 < P.commLossTicks ∧
      detectLoss P b s = s.setCnt { s.cnt with commLossCount := s.cnt.commLossCount + 1 }) ∨
    (b = false ∧ P.commLossTicks ≤ s.cnt.commLossCount + 1 ∧
      detectLoss P b s = (s.setCnt { s.cnt with commLossCount := P.commLossTicks }).setCsr { s.csr with mode := 0 }) := by
  unfold detectLoss
  cases b
  · rcases Nat.lt_or_ge (s.cnt.commLossCount + 1) P.commLossTicks with h | h
    · have e : min (s.cnt.commLossCount + 1) P.commLossTicks = s.cnt.commLossCount + 1 := by omega
      have ne : s.cnt.commLossCount + 1 ≠ P.commLossTicks := by omega
      exact .inr (.inl ⟨rfl, h, by simp [e, ne]⟩)
    · have e : min (s.cnt.commLossCount + 1) P.commLossTicks = P.commLossTicks := by omega
      exact .inr (.inr ⟨rfl, h, by simp [e]⟩)
  · exact .inl ⟨rfl, by simp⟩

/-- The receive attempt: nothing pending, a frame applied, or a frame dropped whole; a pending frame is consumed. -/
theorem receive_cases (P : Params) (s : State) :
    (s.flags.frameReady = false ∧ receive P s = (s, false)) ∨
    (s.flags.frameReady = true ∧ ∃ k f, acceptFrame P (rxFrame s) = .ok (k, f) ∧
      receive P s = (applyFrame P k f (consumeFrame s), true)) ∨
    (s.flags.frameReady = true ∧ (∃ e, acceptFrame P (rxFrame s) = .error e) ∧
      receive P s = (consumeFrame s, false)) := by
  unfold receive
  by_cases h : s.flags.frameReady = true
  · rw [if_pos h]
    match e : acceptFrame P (rxFrame s) with
    | .ok (k, f) => exact .inr (.inl ⟨h, k, f, rfl, rfl⟩)
    | .error r => exact .inr (.inr ⟨h, ⟨r, rfl⟩, rfl⟩)
  · exact .inl ⟨by simpa using h, by rw [if_neg h]⟩

/-- A frame operation writes control registers and, for the Hall kinds, the Hall outputs: nothing else. -/
theorem applyFrame_frame (P : Params) (k : MsgId) (f : FrameArgs) (s : State) :
    applyFrame P k f s = (s.setCsr (applyFrame P k f s).csr).setOut (applyFrame P k f s).out := by
  cases k <;> rfl

/-- c3 is not the host's to write (spec/60_exceptions.md R370). -/
@[simp] theorem applyFrame_fault (P : Params) (k : MsgId) (f : FrameArgs) (s : State) :
    (applyFrame P k f s).csr.fault = s.csr.fault := by
  cases k <;> simp [applyFrame, frameLimits, frameWheelAssist, frameOptfn, frameHallAngles, frameHallOffsets,
    applyPayload, applyHeader, forwardHall]

end Sys2Proof.Machine
end

