-- ==== Sys2Proof/Laws/PerInstr.lean ====
section
/-! SUPPORT. Per instruction: its encoding has the fixed bits of its row of spec/opcode_table.json (the rows' mask
and match; a frame's first two bytes in the host's bit order, byte 0 lowest). -/

namespace Sys2Proof.Laws

/-- The number of bits, the mask and the match of an instruction's row. -/
def RowMatch.row : Instr → Nat × Nat × Nat
  | .idle => (3, 0x7, 0)
  | .sense => (3, 0x7, 1)
  | .health => (3, 0x7, 2)
  | .law => (3, 0x7, 3)
  | .overlay => (3, 0x7, 4)
  | .speedlim => (3, 0x7, 5)
  | .arbiter => (3, 0x7, 6)
  | .comm => (3, 0x7, 7)
  | .off _ => (16, 0xFF00, 0x0000)
  | .power _ => (16, 0xFF00, 0x0100)
  | .cadence _ => (16, 0xFF00, 0x0200)
  | .torque _ => (16, 0xFF00, 0x0300)
  | .emtb _ => (16, 0xFF00, 0x0400)
  | .walk _ => (16, 0xFF00, 0x0500)
  | .cruise _ => (16, 0xFF00, 0x0600)
  | .calib _ => (16, 0xFF00, 0x0700)
  | .ovlNone => (2, 0x3, 0)
  | .ovlThrottle => (2, 0x3, 1)
  | .ovlTemp => (2, 0x3, 2)
  | .frameLimits _ => (104, 0xFFFF, 0x0059)
  | .frameWheelAssist _ => (104, 0xFFFF, 0x0159)
  | .frameOptfn _ => (104, 0xFFFF, 0x0259)
  | .frameHallAngles _ => (104, 0xFFFF, 0x0359)
  | .frameHallOffsets _ => (104, 0xFFFF, 0x0459)

/-- The encoding of `i` is as long as its row says and has its row's fixed bits. -/
def RowMatch.Statement (i : Instr) : Prop :=
  (codeWord (encode i)).1 = (RowMatch.row i).1 ∧
    (codeWord (encode i)).2 &&& (RowMatch.row i).2.1 = (RowMatch.row i).2.2

/-- The mode byte of a command word. -/
theorem cmdWord_mode (m : Mode) (p : Byte) : (cmdWord m p).toNat &&& 0xFF00 = (modeCode m).toNat * 256 := by
  cases m <;> revert p <;> decide

/-- The first two bytes of a frame. -/
theorem frameBytes_start (k : MsgId) (f : FrameArgs) :
    natOfBytes (frameBytes k f).toList &&& 0xFFFF = 0x59 + (msgCode k).toNat * 256 := by
  have e : natOfBytes (frameBytes k f).toList &&& 0xFFFF = natOfBytes (frameBytes k f).toList % 2 ^ 16 :=
    Nat.and_two_pow_sub_one_eq_mod _ 16
  rw [e]
  cases k <;> simp [frameBytes, natOfBytes, msgCode] <;> omega

theorem RowMatch.idle : RowMatch.Statement .idle := ⟨rfl, rfl⟩
theorem RowMatch.sense : RowMatch.Statement .sense := ⟨rfl, rfl⟩
theorem RowMatch.health : RowMatch.Statement .health := ⟨rfl, rfl⟩
theorem RowMatch.law : RowMatch.Statement .law := ⟨rfl, rfl⟩
theorem RowMatch.overlay : RowMatch.Statement .overlay := ⟨rfl, rfl⟩
theorem RowMatch.speedlim : RowMatch.Statement .speedlim := ⟨rfl, rfl⟩
theorem RowMatch.arbiter : RowMatch.Statement .arbiter := ⟨rfl, rfl⟩
theorem RowMatch.comm : RowMatch.Statement .comm := ⟨rfl, rfl⟩
theorem RowMatch.off (p : Byte) : RowMatch.Statement (.off p) := ⟨rfl, cmdWord_mode .off p⟩
theorem RowMatch.power (p : Byte) : RowMatch.Statement (.power p) := ⟨rfl, cmdWord_mode .power p⟩
theorem RowMatch.cadence (p : Byte) : RowMatch.Statement (.cadence p) := ⟨rfl, cmdWord_mode .cadence p⟩
theorem RowMatch.torque (p : Byte) : RowMatch.Statement (.torque p) := ⟨rfl, cmdWord_mode .torque p⟩
theorem RowMatch.emtb (p : Byte) : RowMatch.Statement (.emtb p) := ⟨rfl, cmdWord_mode .emtb p⟩
theorem RowMatch.walk (p : Byte) : RowMatch.Statement (.walk p) := ⟨rfl, cmdWord_mode .walk p⟩
theorem RowMatch.cruise (p : Byte) : RowMatch.Statement (.cruise p) := ⟨rfl, cmdWord_mode .cruise p⟩
theorem RowMatch.calib (p : Byte) : RowMatch.Statement (.calib p) := ⟨rfl, cmdWord_mode .calib p⟩
theorem RowMatch.ovlNone : RowMatch.Statement .ovlNone := ⟨rfl, rfl⟩
theorem RowMatch.ovlThrottle : RowMatch.Statement .ovlThrottle := ⟨rfl, rfl⟩
theorem RowMatch.ovlTemp : RowMatch.Statement .ovlTemp := ⟨rfl, rfl⟩
theorem RowMatch.frameLimits (f : FrameArgs) : RowMatch.Statement (.frameLimits f) :=
  ⟨rfl, frameBytes_start .limits f⟩
theorem RowMatch.frameWheelAssist (f : FrameArgs) : RowMatch.Statement (.frameWheelAssist f) :=
  ⟨rfl, frameBytes_start .wheelAssist f⟩
theorem RowMatch.frameOptfn (f : FrameArgs) : RowMatch.Statement (.frameOptfn f) := ⟨rfl, frameBytes_start .optFn f⟩
theorem RowMatch.frameHallAngles (f : FrameArgs) : RowMatch.Statement (.frameHallAngles f) :=
  ⟨rfl, frameBytes_start .hallAngles f⟩
theorem RowMatch.frameHallOffsets (f : FrameArgs) : RowMatch.Statement (.frameHallOffsets f) :=
  ⟨rfl, frameBytes_start .hallOffsets f⟩

end Sys2Proof.Laws
end

