-- ==== Sys2Proof/Laws/Step.lean ====
section
/-! SUPPORT. What one step can be: an agent's step or a stage operation; and what each instruction's meaning is. -/

namespace Sys2Proof.Machine

@[simp] theorem exec_idle (s : State) : exec .idle s = .next (idle s) := rfl
@[simp] theorem exec_sense (s : State) : exec .sense s = .next (sense Config.P s) := rfl
@[simp] theorem exec_health (s : State) : exec .health s = .next (health s) := rfl
@[simp] theorem exec_law (s : State) : exec .law s = .next (law Config.P s) := rfl
@[simp] theorem exec_overlay (s : State) : exec .overlay s = .next (overlay Config.P s) := rfl
@[simp] theorem exec_speedlim (s : State) : exec .speedlim s = .next (speedlim s) := rfl
@[simp] theorem exec_arbiter (s : State) : exec .arbiter s = .next (arbiter Config.P s) := rfl
@[simp] theorem exec_comm (s : State) : exec .comm s = .next (comm Config.P s) := rfl
@[simp] theorem exec_cmdInstr (m : Mode) (p : Byte) (s : State) :
    exec (cmdInstr m p) s = .next (lawDispatch Config.P m p s) := by cases m <;> rfl
@[simp] theorem exec_ovlInstr (o : Overlay) (s : State) :
    exec (ovlInstr o) s = .next (overlayDispatch Config.P o s) := by cases o <;> rfl
@[simp] theorem exec_frameInstr (k : MsgId) (f : FrameArgs) (s : State) :
    exec (frameInstr k f) s = .next (applyFrame Config.P k f s) := by cases k <;> rfl

/-- The operation of each stage. -/
theorem fetch_cases (s : State) :
    (s.stage = 0 ∧ fetch s = .idle) ∨ (s.stage = 1 ∧ fetch s = .sense) ∨ (s.stage = 2 ∧ fetch s = .health) ∨
    (s.stage = 3 ∧ fetch s = .law) ∨ (s.stage = 4 ∧ fetch s = .overlay) ∨ (s.stage = 5 ∧ fetch s = .speedlim) ∨
    (s.stage = 6 ∧ fetch s = .arbiter) ∨ (s.stage = 7 ∧ fetch s = .comm) := by
  unfold fetch
  generalize s.stage = b
  revert b
  decide

/-- An agent is due exactly between ticks, when the next event is not a tick. -/
theorem dueAgent_some {s : State} {e : Event} :
    dueAgent s = some e ↔ s.stage = 0 ∧ s.env.head? = some e ∧ ∀ inp, e ≠ .tick inp := by
  unfold dueAgent
  split_ifs with h
  · cases hv : s.env with
    | nil => simp [h]
    | cons x xs =>
      cases x <;> simp only [h, List.head?_cons, true_and, Option.some.injEq, reduceCtorEq, false_iff,
        not_and, ne_eq, iff_self_and]
      · rintro rfl; simp
      all_goals rintro rfl; simp
  · exact iff_of_false (by simp) (fun hh => h hh.1)

/-- Everything a step can do. -/
theorem step_cases {s t : State} (h : step s = .next t) :
    (∃ e, dueAgent s = some e ∧ t = agentStep Config.P e s) ∨ (dueAgent s = none ∧ exec (fetch s) s = .next t) := by
  unfold step at h
  cases hd : dueAgent s with
  | some e => rw [hd] at h; exact .inl ⟨e, rfl, by simpa using h.symm⟩
  | none => rw [hd] at h; exact .inr ⟨rfl, h⟩

/-- The same, by stage: the next state as a function of the stage held. -/
theorem step_stage_cases {s t : State} (h : step s = .next t) :
    (∃ e, dueAgent s = some e ∧ t = agentStep Config.P e s) ∨
    (s.stage = 0 ∧ dueAgent s = none ∧ t = idle s) ∨ (s.stage = 1 ∧ t = sense Config.P s) ∨
    (s.stage = 2 ∧ t = health s) ∨ (s.stage = 3 ∧ t = law Config.P s) ∨ (s.stage = 4 ∧ t = overlay Config.P s) ∨
    (s.stage = 5 ∧ t = speedlim s) ∨ (s.stage = 6 ∧ t = arbiter Config.P s) ∨ (s.stage = 7 ∧ t = comm Config.P s) := by
  rcases step_cases h with h | ⟨hd, h⟩
  · exact .inl h
  · rcases fetch_cases s with ⟨hs, hf⟩ | ⟨hs, hf⟩ | ⟨hs, hf⟩ | ⟨hs, hf⟩ | ⟨hs, hf⟩ | ⟨hs, hf⟩ | ⟨hs, hf⟩ | ⟨hs, hf⟩ <;>
      simp [hf] at h <;> simp [hs, h, hd]

end Sys2Proof.Machine
end

