-- ==== Sys2Proof/Laws/Stages.lean ====
section
/-! SUPPORT. What each stage operation can write: its result as an update of the fields it writes, so that a proof
about any other field is one rewrite (spec/10_state.md R28). -/

namespace Sys2Proof.Machine

/-- What the TX agent can do: nothing, or take the byte at the place the count gives (spec/20_memory.md R72). -/
theorem txDrain_cases (s : State) :
    (s.txCount = 0 ∧ txDrain s = s) ∨
    (s.txCount ≠ 0 ∧ ∃ b, (txFrame s.txRec)[29 - s.txCount]? = some b ∧
      txDrain s = (s.setTxSent (some b)).setTxCount (s.txCount - 1)) := by
  by_cases h : s.txCount = 0
  · exact .inl ⟨h, by simp [txDrain, h]⟩
  · obtain ⟨b, hb, hf⟩ := nextTxByte_some h
    exact .inr ⟨h, b, hf, by simp [txDrain, h, hb]⟩

/-- Calibration writes the offset's registers and the done flag. -/
theorem calibrate_eq (P : Params) (s : State) : calibrate P s =
    (s.setFilt { s.filt with
      toffAcc := (calibrate P s).filt.toffAcc, torqueOffset := (calibrate P s).filt.torqueOffset,
      coasterThr := (calibrate P s).filt.coasterThr }).setFlags { s.flags with calDone := (calibrate P s).flags.calDone } := by
  unfold calibrate
  split_ifs <;> rfl

/-- SENSE writes the SensorSample, the filters but the temperature's, the tick count, the done flag and the stage. -/
theorem sense_eq (P : Params) (s : State) : sense P s =
    ((((s.setSensor (sense P s).sensor).setFilt { (sense P s).filt with
      tempAcc := s.filt.tempAcc, tempX10 := s.filt.tempX10 }).setCnt
      { s.cnt with calTicks := (sense P s).cnt.calTicks }).setFlags
      { s.flags with calDone := (sense P s).flags.calDone }).setStage 2 := by
  unfold sense
  dsimp only
  rw [calibrate_eq]
  generalize (calibrate P _).filt.toffAcc = x1
  generalize (calibrate P _).filt.torqueOffset = x2
  generalize (calibrate P _).filt.coasterThr = x3
  generalize (calibrate P _).flags.calDone = x4
  rfl

/-- The motor-blocked detector writes its latch and its two counters. -/
theorem detectMotorBlocked_eq (s : State) : detectMotorBlocked s =
    (s.setFlags { s.flags with mbFault := (detectMotorBlocked s).flags.mbFault }).setCnt
      { s.cnt with mbCount := (detectMotorBlocked s).cnt.mbCount
                   mbResetCount := (detectMotorBlocked s).cnt.mbResetCount } := by
  unfold detectMotorBlocked
  dsimp only
  split_ifs <;> rfl

/-- HEALTH writes the two latches, the two counters, the fault code and the stage. -/
theorem health_eq (s : State) : health s =
    (((s.setFlags { s.flags with mbFault := (health s).flags.mbFault, tsFault := (health s).flags.tsFault }).setCnt
      { s.cnt with mbCount := (health s).cnt.mbCount, mbResetCount := (health s).cnt.mbResetCount }).setCsr
      { s.csr with fault := (health s).csr.fault }).setStage 3 := by
  unfold health updateFaultCode detectTorqueSensor
  rw [detectMotorBlocked_eq]
  generalize (detectMotorBlocked s).flags.mbFault = x1
  generalize (detectMotorBlocked s).cnt.mbCount = x2
  generalize (detectMotorBlocked s).cnt.mbResetCount = x3
  rfl

/-- CRUISE writes AssistOutput, the Cruise registers and its flag. -/
theorem lawCruise_eq (P : Params) (p : Byte) (s : State) : lawCruise P p s =
    ((s.setA (lawCruise P p s).a).setPid (lawCruise P p s).pid).setFlags
      { s.flags with cruiseInitPending := (lawCruise P p s).flags.cruiseInitPending } := by
  unfold lawCruise
  split_ifs <;> rfl

/-- A law writes AssistOutput, and CRUISE its registers and flag besides. -/
theorem lawDispatch_eq (P : Params) (m : Mode) (p : Byte) (s : State) : lawDispatch P m p s =
    ((s.setA (lawDispatch P m p s).a).setPid (lawDispatch P m p s).pid).setFlags
      { s.flags with cruiseInitPending := (lawDispatch P m p s).flags.cruiseInitPending } := by
  cases m
  case cruise => exact lawCruise_eq P p s
  all_goals simp only [lawDispatch, lawOff, lawPower, lawCadence, lawTorque, lawEmtb, lawWalk, lawCalib]
  all_goals first | rfl | (split_ifs <;> rfl)

/-- LAW writes the ceiling, AssistOutput, the Cruise registers and flag, and the stage. -/
theorem law_eq (P : Params) (s : State) : law P s =
    ((((s.setIMax (currentCeiling P s)).setA (law P s).a).setPid (law P s).pid).setFlags
      { s.flags with cruiseInitPending := (law P s).flags.cruiseInitPending }).setStage 4 := by
  unfold law
  rw [lawDispatch_eq]
  generalize (lawDispatch P _ _ _).a = x1
  generalize (lawDispatch P _ _ _).pid = x2
  generalize (lawDispatch P _ _ _).flags.cruiseInitPending = x3
  unfold lawPrologue
  dsimp only
  split_ifs <;> rfl

/-- An overlay writes AssistOutput and, for the temperature overlay, its filter. -/
theorem overlayDispatch_eq (P : Params) (o : Overlay) (s : State) : overlayDispatch P o s =
    (s.setA (overlayDispatch P o s).a).setFilt
      { s.filt with tempAcc := (overlayDispatch P o s).filt.tempAcc, tempX10 := (overlayDispatch P o s).filt.tempX10 } := by
  cases o
  · rfl
  · simp only [overlayDispatch, overlayThrottle]; split_ifs <;> rfl
  · rfl

/-- OVERLAY writes AssistOutput, the temperature filter and the stage. -/
theorem overlay_eq (P : Params) (s : State) : overlay P s =
    ((s.setA (overlay P s).a).setFilt
      { s.filt with tempAcc := (overlay P s).filt.tempAcc, tempX10 := (overlay P s).filt.tempX10 }).setStage 5 := by
  unfold overlay
  rw [overlayDispatch_eq]
  rfl

/-- SPEEDLIM writes the requested current and the stage. -/
theorem speedlim_eq (s : State) : speedlim s =
    (s.setA { s.a with iTarget := (speedlim s).a.iTarget }).setStage 6 := by
  unfold speedlim limitSpeed
  split_ifs <;> rfl

/-- The enable state machine writes the flag, the ramps and the strobes. -/
theorem enableFsm_eq (P : Params) (s : State) : enableFsm P s =
    ((s.setFlags { s.flags with motorEnabled := (enableFsm P s).flags.motorEnabled }).setA
      { s.a with rampUp := (enableFsm P s).a.rampUp, rampDown := (enableFsm P s).a.rampDown }).setOut
      { (enableFsm P s).out with hallCfgValid := s.out.hallCfgValid, hallCfgId := s.out.hallCfgId
                                 hallCfgData := s.out.hallCfgData } := by
  unfold enableFsm
  split_ifs <;> rfl

/-- ARBITER writes the enable flag, the ramps, the drive registers, the strobes and the stage. -/
theorem arbiter_eq (P : Params) (s : State) : arbiter P s =
    ((((s.setFlags { s.flags with motorEnabled := (arbiter P s).flags.motorEnabled }).setA
      { s.a with rampUp := (arbiter P s).a.rampUp, rampDown := (arbiter P s).a.rampDown }).setDrv (arbiter P s).drv).setOut
      { (arbiter P s).out with hallCfgValid := s.out.hallCfgValid, hallCfgId := s.out.hallCfgId
                               hallCfgData := s.out.hallCfgData }).setStage 7 := by
  unfold arbiter inhibitOrCommit
  rw [enableFsm_eq]
  split_ifs <;> rfl

/-- A frame operation writes control registers but c3 and the Hall outputs. -/
theorem applyFrame_eq (P : Params) (k : MsgId) (f : FrameArgs) (s : State) : applyFrame P k f s =
    (s.setCsr { (applyFrame P k f s).csr with fault := s.csr.fault }).setOut
      { s.out with hallCfgValid := (applyFrame P k f s).out.hallCfgValid
                   hallCfgId := (applyFrame P k f s).out.hallCfgId
                   hallCfgData := (applyFrame P k f s).out.hallCfgData } := by
  have e : (applyFrame P k f s).csr = { (applyFrame P k f s).csr with fault := s.csr.fault } := by
    rw [← applyFrame_fault P k f s]
  rw [← e]
  cases k <;> rfl

/-- A receive attempt writes control registers but c3, the frame flag and the Hall outputs. -/
theorem receive_eq (P : Params) (s : State) : (receive P s).1 =
    ((s.setCsr { (receive P s).1.csr with fault := s.csr.fault }).setFlags
      { s.flags with frameReady := (receive P s).1.flags.frameReady }).setOut
      { s.out with hallCfgValid := (receive P s).1.out.hallCfgValid, hallCfgId := (receive P s).1.out.hallCfgId
                   hallCfgData := (receive P s).1.out.hallCfgData } := by
  rcases receive_cases P s with ⟨_, e⟩ | ⟨_, k, f, _, e⟩ | ⟨_, _, e⟩ <;> rw [e]
  · rfl
  · dsimp only
    rw [applyFrame_eq]
    rfl
  · rfl

/-- A send writes the record, the count and the draw counter. -/
theorem send_eq (P : Params) (s : State) : send P s =
    ((s.setTxRec (send P s).txRec).setTxCount (send P s).txCount).setDraws (send P s).draws := by
  unfold send
  split_ifs <;> rfl

/-- An exchange writes what a receive attempt and a send write. -/
theorem exchange_eq (P : Params) (s : State) : (exchange P s).1 =
    (((((s.setCsr { (exchange P s).1.csr with fault := s.csr.fault }).setFlags
      { s.flags with frameReady := (exchange P s).1.flags.frameReady }).setOut
      { s.out with hallCfgValid := (exchange P s).1.out.hallCfgValid, hallCfgId := (exchange P s).1.out.hallCfgId
                   hallCfgData := (exchange P s).1.out.hallCfgData }).setTxRec (exchange P s).1.txRec).setTxCount
      (exchange P s).1.txCount).setDraws (exchange P s).1.draws := by
  obtain ⟨c, f, o1, o2, o3, x, y, z, h⟩ : ∃ (c : Csr) (f : Bool) (o1 : Bool) (o2 : BitVec 1) (o3 : Payload) (x : TxRec)
      (y z : Nat), (exchange P s).1 = (((((s.setCsr { c with fault := s.csr.fault }).setFlags
        { s.flags with frameReady := f }).setOut
        { s.out with hallCfgValid := o1, hallCfgId := o2, hallCfgData := o3 }).setTxRec x).setTxCount y).setDraws z := by
    unfold exchange
    split_ifs
    · obtain ⟨c, f, o1, o2, o3, hr⟩ : ∃ (c : Csr) (f : Bool) (o1 : Bool) (o2 : BitVec 1) (o3 : Payload),
          (receive P s).1 = ((s.setCsr { c with fault := s.csr.fault }).setFlags { s.flags with frameReady := f }).setOut
            { s.out with hallCfgValid := o1, hallCfgId := o2, hallCfgData := o3 } := ⟨_, _, _, _, _, receive_eq P s⟩
      obtain ⟨x, y, z, hs⟩ : ∃ x y z, send P (receive P s).1 = (((receive P s).1.setTxRec x).setTxCount y).setDraws z :=
        ⟨_, _, _, send_eq P _⟩
      exact ⟨c, f, o1, o2, o3, x, y, z, by dsimp only; rw [hs, hr]⟩
    · exact ⟨s.csr, s.flags.frameReady, s.out.hallCfgValid, s.out.hallCfgId, s.out.hallCfgData, s.txRec, s.txCount,
        s.draws, by apply State.ext_fields <;> simp⟩
  rw [h]
  rfl

/-- The loss detector writes the loss count and the mode. -/
theorem detectLoss_eq (P : Params) (b : Bool) (s : State) : detectLoss P b s =
    (s.setCnt { s.cnt with commLossCount := (detectLoss P b s).cnt.commLossCount }).setCsr
      { s.csr with mode := (detectLoss P b s).csr.mode } := by
  rcases detectLoss_cases P b s with ⟨_, e⟩ | ⟨_, _, e⟩ | ⟨_, _, e⟩ <;> rw [e] <;> rfl

/-- COMM writes the control registers but c3, the frame flag, the loss count, the outbound record and its count, the
draw counter, the Hall outputs, the exchange phase and the stage. -/
theorem comm_eq (P : Params) (s : State) : Machine.comm P s =
    ((((((((s.setCsr { (Machine.comm P s).csr with fault := s.csr.fault }).setFlags
      { s.flags with frameReady := (Machine.comm P s).flags.frameReady }).setCnt
      { s.cnt with commLossCount := (Machine.comm P s).cnt.commLossCount }).setTxRec (Machine.comm P s).txRec).setTxCount
      (Machine.comm P s).txCount).setDraws (Machine.comm P s).draws).setOut
      { s.out with hallCfgValid := (Machine.comm P s).out.hallCfgValid, hallCfgId := (Machine.comm P s).out.hallCfgId
                   hallCfgData := (Machine.comm P s).out.hallCfgData }).setTickMod4 (s.tickMod4 + 1)).setStage 0 := by
  obtain ⟨c, f, o1, o2, o3, x, y, z, h⟩ : ∃ (c : Csr) (f : Bool) (o1 : Bool) (o2 : BitVec 1) (o3 : Payload) (x : TxRec)
      (y z : Nat), (exchange P (s.setOut { s.out with hallCfgValid := false })).1 =
        (((((s.setCsr { c with fault := s.csr.fault }).setFlags { s.flags with frameReady := f }).setOut
          { s.out with hallCfgValid := o1, hallCfgId := o2, hallCfgData := o3 }).setTxRec x).setTxCount y).setDraws z :=
    ⟨_, _, _, _, _, _, _, _, exchange_eq P _⟩
  obtain ⟨n, m, hd⟩ : ∃ n m, detectLoss P (exchange P (s.setOut { s.out with hallCfgValid := false })).2
      (exchange P (s.setOut { s.out with hallCfgValid := false })).1 =
        ((exchange P (s.setOut { s.out with hallCfgValid := false })).1.setCnt
          { (exchange P (s.setOut { s.out with hallCfgValid := false })).1.cnt with commLossCount := n }).setCsr
          { (exchange P (s.setOut { s.out with hallCfgValid := false })).1.csr with mode := m } :=
    ⟨_, _, detectLoss_eq P _ _⟩
  unfold Machine.comm
  dsimp only
  rw [hd, h]
  apply State.ext_fields <;> simp

/-- What SENSE writes, with the values themselves left open. -/
theorem sense_exists (P : Params) (s : State) : ∃ (x : Sensor) (f : Filters) (n : Nat) (b : Bool),
    sense P s = ((((s.setSensor x).setFilt { f with tempAcc := s.filt.tempAcc, tempX10 := s.filt.tempX10 }).setCnt
      { s.cnt with calTicks := n }).setFlags { s.flags with calDone := b }).setStage 2 := by
  have h := sense_eq P s
  generalize (sense P s).sensor = x at h
  generalize (sense P s).filt = f at h
  generalize (sense P s).cnt.calTicks = n at h
  generalize (sense P s).flags.calDone = b at h
  exact ⟨x, f, n, b, h⟩

/-- What HEALTH writes, with the values themselves left open. -/
theorem health_exists (s : State) : ∃ (b c : Bool) (m n : Nat) (x : Byte),
    health s = (((s.setFlags { s.flags with mbFault := b, tsFault := c }).setCnt
      { s.cnt with mbCount := m, mbResetCount := n }).setCsr { s.csr with fault := x }).setStage 3 := by
  have h := health_eq s
  generalize (health s).flags.mbFault = b at h
  generalize (health s).flags.tsFault = c at h
  generalize (health s).cnt.mbCount = m at h
  generalize (health s).cnt.mbResetCount = n at h
  generalize (health s).csr.fault = x at h
  exact ⟨b, c, m, n, x, h⟩

/-- What LAW writes, with the values but the ceiling left open. -/
theorem law_exists (P : Params) (s : State) : ∃ (a : DriveTuple) (p : CruisePid) (b : Bool),
    law P s = ((((s.setIMax (currentCeiling P s)).setA a).setPid p).setFlags
      { s.flags with cruiseInitPending := b }).setStage 4 := by
  have h := law_eq P s
  generalize (law P s).a = a at h
  generalize (law P s).pid = p at h
  generalize (law P s).flags.cruiseInitPending = b at h
  exact ⟨a, p, b, h⟩

/-- What OVERLAY writes, with the values themselves left open. -/
theorem overlay_exists (P : Params) (s : State) : ∃ (a : DriveTuple) (m n : Nat),
    overlay P s = ((s.setA a).setFilt { s.filt with tempAcc := m, tempX10 := n }).setStage 5 := by
  have h := overlay_eq P s
  generalize (overlay P s).a = a at h
  generalize (overlay P s).filt.tempAcc = m at h
  generalize (overlay P s).filt.tempX10 = n at h
  exact ⟨a, m, n, h⟩

/-- What SPEEDLIM writes, with the value itself left open. -/
theorem speedlim_exists (s : State) : ∃ i : Nat, speedlim s = (s.setA { s.a with iTarget := i }).setStage 6 := by
  have h := speedlim_eq s
  generalize (speedlim s).a.iTarget = i at h
  exact ⟨i, h⟩

/-- What ARBITER writes, with the values themselves left open. -/
theorem arbiter_exists (P : Params) (s : State) : ∃ (b : Bool) (m n : Nat) (d : DriveTuple) (o : Strobes),
    arbiter P s = ((((s.setFlags { s.flags with motorEnabled := b }).setA
      { s.a with rampUp := m, rampDown := n }).setDrv d).setOut
      { o with hallCfgValid := s.out.hallCfgValid, hallCfgId := s.out.hallCfgId
               hallCfgData := s.out.hallCfgData }).setStage 7 := by
  have h := arbiter_eq P s
  generalize (arbiter P s).flags.motorEnabled = b at h
  generalize (arbiter P s).a.rampUp = m at h
  generalize (arbiter P s).a.rampDown = n at h
  generalize (arbiter P s).drv = d at h
  generalize (arbiter P s).out = o at h
  exact ⟨b, m, n, d, o, h⟩

/-- What COMM writes, with the values themselves left open. -/
theorem comm_exists (P : Params) (s : State) : ∃ (c : Csr) (b : Bool) (n : Nat) (r : TxRec) (x d : Nat) (v : Bool)
    (i : BitVec 1) (p : Payload),
    Machine.comm P s = ((((((((s.setCsr { c with fault := s.csr.fault }).setFlags { s.flags with frameReady := b }).setCnt
      { s.cnt with commLossCount := n }).setTxRec r).setTxCount x).setDraws d).setOut
      { s.out with hallCfgValid := v, hallCfgId := i, hallCfgData := p }).setTickMod4 (s.tickMod4 + 1)).setStage 0 := by
  have hc := comm_eq P s
  generalize (Machine.comm P s).csr = c at hc
  generalize (Machine.comm P s).flags.frameReady = b at hc
  generalize (Machine.comm P s).cnt.commLossCount = n at hc
  generalize (Machine.comm P s).txRec = r at hc
  generalize (Machine.comm P s).txCount = x at hc
  generalize (Machine.comm P s).draws = d at hc
  generalize (Machine.comm P s).out.hallCfgValid = v at hc
  generalize (Machine.comm P s).out.hallCfgId = i at hc
  generalize (Machine.comm P s).out.hallCfgData = p at hc
  exact ⟨c, b, n, r, x, d, v, i, p, hc⟩

end Sys2Proof.Machine
end

