-- ==== Sys2Proof/Tests/Slice0.lean ====
section
/-! SUPPORT. Tests. Expected values are those of spec/95_test_vectors.md under its configuration TC1, or
hand-written encodings from spec/30_encoding.md. -/

namespace Sys2Proof.Tests
open Sys2Proof Sys2Proof.Machine Sys2Proof.Safety

/-- One bit of the bit-serial CRC of TC1 (spec/95_test_vectors.md 1.1). -/
def crcShift (c : Half) : Half := if c.msb then (c <<< 1) ^^^ 0x1021 else c <<< 1

/-- One byte of it. -/
def crcByte (c : Half) (b : Byte) : Half := Nat.iterate crcShift 8 (c ^^^ (b ++ (0 : Byte)))

/-- The configuration TC1 (spec/95_test_vectors.md 1.1). -/
def TC1 : Params where
  vbatK := 2
  vbatMvPerStep := 87
  ibatStepX100 := 16
  cadenceNum := 46875
  wheelNum := 562
  ctmSpeedLoX10 := 40
  ctmSpeedHiX10 := 400
  ctmTicksLo := 4000
  ctmTicksHi := 400
  calStartTicks := 40
  calEndTicks := 160
  toffInit := 150
  toffK := 2
  calCorrection := 6
  coasterConst := 30
  tempNum := 39
  tempDen := 8
  thrAdcMin := 47
  thrAdcMax := 176
  dutyMax := 254
  dutyStartup := 30
  adcIAbsMax := 112
  rampUpMin := 20
  rampUpDefault := 160
  rampDownMin := 10
  rampDownDefault := 80
  awprRpmPower := 4
  awprRpmTorque := 1
  awprRpmEmtb := 1
  cadPowerPerUnitX100 := 1000
  cadPowerMaxX100 := 50000
  walkSpeedMaxX10 := 80
  walkRampUp := 200
  walkICap := 40
  cruiseSpeedMinX10 := 90
  cruiseRampUp := 80
  kp := 14
  kd := 0
  kiNum := 7
  kiDen := 10
  calRampUp := 20
  calRampDown := 10
  thrSpeedLoX10 := 40
  thrSpeedHiX10 := 400
  thrRampUpMin := 20
  thrRampUpDefault := 160
  thrRampDownMin := 10
  thrRampDownDefault := 80
  commLossTicks := 20
  emtbLut := fun level idx => min 240 ((idx * 64 * level) / 240)
  crc16 := fun bs => bs.foldl crcByte 0xFFFF
  decodePayload := defaultDecodePayload

/-- The warm start state W1 (spec/95_test_vectors.md 1.2). -/
def W1 : State :=
  let r := State.resetWith TC1
  ((((r.setFilt { r.filt with vbatAcc := 1656, toffAcc := 579, torqueOffset := 150, coasterThr := 120 }).setSensor
    { r.sensor with vbatX1000 := 36018 }).setCnt { r.cnt with calTicks := 161 }).setFlags
    { r.flags with calDone := true }).setCsr
    { r.csr with iMaxAdc := 100, pMaxW := 1000, wheelPerimeterMm := 2100, maxSpeedKmh := 25, torquePerStepX100 := 67 }

/-- A state built from `W1` by setting sensor readings: cadence, torque delta, wheel speed, with `S.i_max` = 100. -/
def riding (cad delta speed : Nat) : State :=
  (W1.setSensor { W1.sensor with cadenceRpm := cad, torqueDelta := delta, torqueX100 := delta * 67, wheelSpeedX10 := speed }
    ).setIMax 100

/-- The same with the default tuple in `A`, as LAW leaves it before it dispatches. -/
def laying (cad delta speed : Nat) : State := (riding cad delta speed).setA (defaultTuple TC1)

/-! ### Words written out from spec/30_encoding.md -/

theorem test_decode_stage_codes :
    decode (.stage 0b000) = .ok .idle ∧ decode (.stage 0b001) = .ok .sense ∧ decode (.stage 0b010) = .ok .health ∧
    decode (.stage 0b011) = .ok .law ∧ decode (.stage 0b100) = .ok .overlay ∧ decode (.stage 0b101) = .ok .speedlim ∧
    decode (.stage 0b110) = .ok .arbiter ∧ decode (.stage 0b111) = .ok .comm := by decide

theorem test_decode_command_words :
    decode (.cmd 0b00000000_00000000) = .ok (.off 0) ∧ decode (.cmd 0b00000001_01100100) = .ok (.power 100) ∧
    decode (.cmd 0b00000010_00110010) = .ok (.cadence 50) ∧ decode (.cmd 0b00000011_01100100) = .ok (.torque 100) ∧
    decode (.cmd 0b00000100_00010101) = .ok (.emtb 21) ∧ decode (.cmd 0b00000101_00011110) = .ok (.walk 30) ∧
    decode (.cmd 0b00000110_00011001) = .ok (.cruise 25) ∧ decode (.cmd 0b00000111_11111111) = .ok (.calib 255) := by
  decide

theorem test_decode_reserved_modes :
    decode (.cmd 0x0800) = .ok (.off 0) ∧ decode (.cmd 0xFF64) = .ok (.off 100) := by decide

theorem test_decode_overlay_codes :
    decode (.ovl 0b00) = .ok .ovlNone ∧ decode (.ovl 0b01) = .ok .ovlThrottle ∧ decode (.ovl 0b10) = .ok .ovlTemp ∧
    decode (.ovl 0b11) = .ok .ovlNone := by decide

/-- The frame of V80. -/
def frameV80 : Vector Byte 13 := #v[0x59, 0x01, 0x01, 0x64, 0x00, 0x34, 0x08, 0x19, 0x43, 0x00, 0x00, 0xBE, 0x3E]
/-- The frame of V82. -/
def frameV82 : Vector Byte 13 := #v[0x59, 0x00, 0x04, 0x01, 0x00, 0x64, 0xE8, 0x03, 0x00, 0x00, 0x00, 0x58, 0x9F]
/-- The frame of V83: that of V82 with its CRC spoilt. -/
def frameV83 : Vector Byte 13 := #v[0x59, 0x00, 0x04, 0x01, 0x00, 0x64, 0xE8, 0x03, 0x00, 0x00, 0x00, 0x59, 0x9F]
/-- The frame of V84: reserved message-ID 9. -/
def frameV84 : Vector Byte 13 := #v[0x59, 0x09, 0x00, 0x00, 0x00, 0x00, 0x00, 0x00, 0x00, 0x00, 0x00, 0x2E, 0x9A]
/-- The frame of V85. -/
def frameV85 : Vector Byte 13 := #v[0x59, 0x02, 0x04, 0x19, 0x00, 0x01, 0x00, 0x00, 0x00, 0x00, 0x00, 0x58, 0xDC]

theorem test_decode_frame_v80 :
    decode (.rxf frameV80) = .ok (.frameWheelAssist
      { mode := 1, param := 100, lights := 0, crcLo := 0xBE, crcHi := 0x3E,
        payload := { b0 := 0x34, b1 := 0x08, b2 := 0x19, b3 := 0x43, b4 := 0, b5 := 0 } }) := by decide

/-- A frame of message-ID `k` whose other bytes are 0. -/
def blankFrame (k : Byte) : Vector Byte 13 := #v[0x59, k, 0, 0, 0, 0, 0, 0, 0, 0, 0, 0, 0]

theorem test_decode_message_ids :
    decode (.rxf (blankFrame 0)) = .ok (.frameLimits default) ∧
    decode (.rxf (blankFrame 2)) = .ok (.frameOptfn default) ∧
    decode (.rxf (blankFrame 3)) = .ok (.frameHallAngles default) ∧
    decode (.rxf (blankFrame 4)) = .ok (.frameHallOffsets default) ∧
    decode (.rxf (blankFrame 5)) = .error .reservedMsgId ∧ decode (.rxf (blankFrame 255)) = .error .reservedMsgId ∧
    decode (.rxf (#v[0x58, 0, 0, 0, 0, 0, 0, 0, 0, 0, 0, 0, 0])) = .error .badStart := by decide

/-- Bytes in the host's numbering: byte 0 of V80 lowest, and the same bytes with byte 0 highest. -/
theorem test_table_words :
    decodeTableWord 16 0x0164 = some (.power 100) ∧ decodeTableWord 8 3 = some .law ∧ decodeTableWord 8 8 = none ∧
    decodeTableWord 2 1 = some .ovlThrottle ∧
    decodeTableWord 104 0x3EBE00004319083400640101_59 = (decode (.rxf frameV80)).toOption ∧
    decodeTableWord 104 0x590101640034081943_0000BE3E = (decode (.rxf frameV80)).toOption := by decide

/-! ### The integrity check of a frame -/

/-- The check value of the CRC of TC1 over the digits 1 to 9. -/
theorem test_crc_check_value :
    TC1.crc16 [0x31, 0x32, 0x33, 0x34, 0x35, 0x36, 0x37, 0x38, 0x39] = 0x29B1 := by decide +kernel

theorem test_accept_v80_v82_v85 :
    (acceptFrame TC1 frameV80).isOk = true ∧ (acceptFrame TC1 frameV82).isOk = true ∧
    (acceptFrame TC1 frameV85).isOk = true := by decide +kernel

theorem test_reject_v83_v84_v88 :
    acceptFrame TC1 frameV83 = .error .badCrc ∧ acceptFrame TC1 frameV84 = .error .reservedMsgId ∧
    acceptFrame TC1 (frameV80.set 0 0x58) = .error .badStart := by decide +kernel

/-- The ill-formed term of the one well-formedness check, for each operation that has it: a CRC byte off by one. -/
theorem test_ill_formed_frames :
    (Instr.frameLimits { frameArgs frameV82 with crcLo := 0x59 }).wellFormed TC1 = false ∧
    (Instr.frameWheelAssist { frameArgs frameV80 with crcHi := 0x3F }).wellFormed TC1 = false ∧
    (Instr.frameOptfn { frameArgs frameV85 with crcLo := 0x59 }).wellFormed TC1 = false ∧
    (Instr.frameHallAngles default).wellFormed TC1 = false ∧ (Instr.frameHallOffsets default).wellFormed TC1 = false := by
  decide +kernel

theorem test_well_formed_frames :
    (Instr.frameLimits (frameArgs frameV82)).wellFormed TC1 = true ∧
    (Instr.frameWheelAssist (frameArgs frameV80)).wellFormed TC1 = true ∧
    (Instr.frameOptfn (frameArgs frameV85)).wellFormed TC1 = true ∧
    (Instr.frameHallAngles (withCrc TC1 .hallAngles default)).wellFormed TC1 = true := by decide +kernel

/-! ### Reset -/

theorem test_reset_status : statusWord TC1 (State.resetWith TC1) = 0x10 := by decide

/-! ### Arithmetic: V1 to V9 -/

theorem test_lerp_v1 : [0, 39, 40, 41, 120, 199, 200, 65535].map (fun x => lerp x 40 200 160 20) =
    [160, 160, 160, 160, 90, 21, 20, 20] := by decide

theorem test_lerp_v2 : [46, 47, 48, 111, 175, 176, 255].map (fun x => lerp x 47 176 0 255) =
    [0, 0, 1, 126, 253, 255, 255] := by decide

theorem test_p2i_v5_v6_v7 :
    [0, 576, 577, 50000, 55833, 100000, 6553500].map (p2i TC1 W1) = [0, 0, 1, 86, 96, 173, 11371] ∧
    p2i TC1 (State.resetWith TC1) 100000 = 0 ∧
    p2i TC1 (W1.setSensor { W1.sensor with vbatX1000 := 1 }) 6553500 = 409593750 := by decide

theorem test_clamp_v9 : [-462, 0, 1000, 1070].map (fun v => clampInt v 0 1000) = [0, 0, 1000, 1000] := by decide

/-! ### SENSE: V10 to V17 -/

/-- `W1` with a sample. -/
def sampled (inp : Inputs) : State := W1.setInp inp

theorem test_sense_v10 :
    let s := sense TC1 ((State.resetWith TC1).setInp { Inputs.zero with adcVbat := 414 })
    s.filt.vbatAcc = 414 ∧ s.sensor.vbatX1000 = 8961 ∧ (sense TC1 s).filt.vbatAcc = 725 ∧
    (sense TC1 s).sensor.vbatX1000 = 15747 := by decide

theorem test_sense_v11_v12_v13_v15 :
    let s := sense TC1 (sampled { Inputs.zero with adcIbatFilt := 31, wheelTicks := 4720, cadenceTicks := 184, adcTorque := 1023 })
    s.sensor.ibatX10 = 49 ∧ s.sensor.wheelSpeedX10 = 250 ∧ s.sensor.cadenceRpm = 254 ∧
    s.sensor.cadenceTicksMin = 1900 ∧ s.sensor.torqueDelta = 873 ∧ s.sensor.torqueX100 = 58491 := by decide

/-- V16, in the window and at its end: its offsets 150 to 155, and 164 to 170. -/
theorem test_calibration_v16 :
    let r := (State.resetWith TC1).setInp { Inputs.zero with adcTorque := 170 }
    let s := sense TC1 (r.setCnt { r.cnt with calTicks := 40 })
    let t := sense TC1 ((r.setFilt { r.filt with torqueOffset := 164 }).setCnt { r.cnt with calTicks := 160 })
    s.filt.toffAcc = 620 ∧ s.filt.torqueOffset = 155 ∧ s.sensor.torqueDelta = 15 ∧ s.flags.calDone = false ∧
    t.filt.torqueOffset = 170 ∧ t.filt.coasterThr = 140 ∧ t.flags.calDone = true ∧ t.cnt.calTicks = 161 ∧
    t.sensor.torqueDelta = 0 := by decide

/-! ### HEALTH: V70 to V78 -/

/-- `W1` with motor-blocked readings, mode and counts. -/
def blocked (ibat erps count : Nat) : State :=
  (W1.setSensor { W1.sensor with ibatX10 := ibat, motorErps := erps }).setCnt { W1.cnt with mbCount := count }

theorem test_health_v70_v71 :
    (health (blocked 51 9 9)).csr.fault = 1 ∧ (health (blocked 51 9 8)).cnt.mbCount = 9 ∧
    (health (blocked 50 9 9)).cnt.mbCount = 0 ∧ (health (blocked 51 10 9)).cnt.mbCount = 0 := by decide

/-- Latched motor-blocked fault with a reset count. -/
def latched (n : Nat) : State :=
  (W1.setFlags { W1.flags with mbFault := true }).setCnt { W1.cnt with mbResetCount := n }

theorem test_health_v73 :
    (health (latched 98)).csr.fault = 1 ∧ (health (latched 98)).cnt.mbResetCount = 99 ∧ (health (latched 99)).csr.fault = 0 ∧
    (health (latched 99)).cnt.mbResetCount = 0 := by decide

/-- `W1` with mode, torque offset and torque reading. -/
def torqueRead (mode : Byte) (offset adc : Nat) : State :=
  ((W1.setCsr { W1.csr with mode := mode }).setFilt { W1.filt with torqueOffset := offset }).setSensor
    { W1.sensor with torqueAdc := adc }

theorem test_health_v75_v76_v77 :
    (health (torqueRead 3 9 0)).csr.fault = 2 ∧ (health (torqueRead 3 301 0)).csr.fault = 2 ∧
    (health (torqueRead 3 10 501)).csr.fault = 2 ∧ (health (torqueRead 3 10 500)).csr.fault = 0 ∧
    (health (torqueRead 3 300 500)).csr.fault = 0 ∧ (health (torqueRead 2 9 0)).csr.fault = 0 ∧
    (health (torqueRead 8 9 0)).csr.fault = 0 := by decide

/-! ### The riding modes: V20 to V37 -/

theorem test_power_v20_v21_v22 :
    (lawPower TC1 100 (laying 80 50 0)).a = ⟨96, 254, 20, 10⟩ ∧
    (lawPower TC1 100 (laying 0 50 0)).a = ⟨0, 0, 160, 80⟩ ∧
    (lawPower TC1 255 (laying 120 400 0)).a = ⟨100, 254, 20, 10⟩ := by decide

theorem test_cadence_v23 : (lawCadence TC1 50 (laying 60 0 0)).a = ⟨86, 254, 48, 24⟩ := by decide

theorem test_torque_v24_v25 :
    (lawTorque TC1 100 (laying 80 50 0)).a = ⟨45, 254, 20, 10⟩ ∧
    (lawTorque TC1 100 (laying 0 50 0)).a = ⟨0, 0, 160, 80⟩ := by decide

/-- `laying` with the assist-without-pedal-rotation threshold 20. -/
def rolling (delta : Nat) : State :=
  (laying 0 delta 0).setCsr { W1.csr with awprThreshold := 20 }

theorem test_torque_v26_v27 :
    (lawTorque TC1 100 (rolling 95)).a = ⟨86, 254, 160, 80⟩ ∧ (lawTorque TC1 100 (rolling 90)).a = ⟨0, 0, 160, 80⟩ := by
  decide

theorem test_emtb_v28_v30 :
    (lawEmtb TC1 1 (laying 80 300 0)).a = ⟨64, 254, 20, 10⟩ ∧ (lawEmtb TC1 20 (laying 80 20 0)).a = ⟨100, 254, 20, 10⟩ := by
  decide +kernel

theorem test_emtb_v29 :
    (lawEmtb TC1 21 (laying 80 50 0)).a = ⟨0, 0, 160, 80⟩ ∧ (lawEmtb TC1 0 (laying 80 50 0)).a = ⟨0, 0, 160, 80⟩ := by
  decide

theorem test_walk_v31_v32_v33 :
    (lawWalk TC1 100 (laying 0 0 79)).a = ⟨40, 80, 200, 80⟩ ∧ (lawWalk TC1 100 (laying 0 0 80)).a = ⟨0, 0, 160, 80⟩ ∧
    (lawWalk TC1 30 (laying 0 0 0)).a = ⟨40, 30, 200, 80⟩ := by decide

theorem test_calib_v34 : (lawCalib TC1 255 (laying 0 0 0)).a = ⟨100, 253, 20, 10⟩ := by decide

/-- LAW itself: the reserved mode 0xFF, and the ceiling with no current configured. -/
theorem test_law_v35_v36 :
    (law TC1 ((riding 80 50 0).setCsr { W1.csr with mode := 0xFF, param := 0x64 })).a = ⟨0, 0, 160, 80⟩ ∧
    (law TC1 ((riding 80 50 0).setCsr { W1.csr with mode := 1, param := 0x64 })).iMax = 100 ∧
    (law TC1 ((riding 80 50 0).setCsr { W1.csr with mode := 1, param := 0x64, iMaxAdc := 0 })).a.iTarget = 0 := by decide

theorem test_ramp_shape_v37 :
    (rampShape TC1 45 (laying 45 0 120)).a = ⟨0, 0, 90, 45⟩ ∧ (rampShape TC1 0 (laying 0 0 200)).a = ⟨0, 0, 20, 10⟩ := by
  decide

/-! ### Cruise: V40 to V49 -/

theorem test_cruise_v40 :
    let s := lawCruise TC1 25 (laying 0 0 200)
    s.pid = ⟨50, 50, 370, 50, 959, 250⟩ ∧ s.a = ⟨100, 241, 80, 80⟩ ∧ s.flags.cruiseInitPending = false := by decide

/-- V41 from the state V40 leaves, at speed 220, and V43's negative sum. -/
theorem test_cruise_v41_v43 :
    let s := ((laying 0 0 220).setPid ⟨50, 50, 370, 50, 959, 250⟩).setFlags { W1.flags with cruiseInitPending := false }
    (lawCruise TC1 25 s).pid = ⟨30, 30, 400, -20, 700, 250⟩ ∧ (lawCruise TC1 25 s).a.dutyTarget = 177 ∧
    (lawCruise TC1 25 ((s.setSensor { s.sensor with wheelSpeedX10 := 300 }).setPid ⟨-10, -10, 390, -40, 133, 250⟩)).pid
      = ⟨-50, -50, 340, -40, 0, 250⟩ := by decide

theorem test_cruise_v44_v45 :
    (lawCruise TC1 0 (laying 0 0 200)).pid.targetX10 = 200 ∧ (lawCruise TC1 0 (laying 0 0 200)).a.dutyTarget = 56 ∧
    lawCruise TC1 25 (laying 0 0 90) = laying 0 0 90 := by decide

theorem test_cruise_v47_v49 :
    (lawCruise TC1 10 (laying 0 0 300)).pid = ⟨-200, -200, 120, -200, 0, 100⟩ ∧
    (lawCruise TC1 255 (laying 0 0 100)).pid = ⟨2450, 2450, 1000, 2450, 1000, 2550⟩ := by decide

/-! ### Overlays and speed limiter: V50 to V59f -/

/-- `riding` at a speed with a request. -/
def requesting (speed i : Nat) : State := (riding 0 0 speed).setA ⟨i, 254, 20, 10⟩

theorem test_speedlim_v50_v51 :
    [229, 230, 231, 250, 269, 270, 271].map (fun v => (speedlim (requesting v 96)).a.iTarget) = [96, 96, 94, 48, 3, 0, 0] ∧
    (speedlim (requesting 250 97)).a = ⟨49, 254, 20, 10⟩ := by decide

theorem test_speedlim_v54_v55 :
    (speedlim ((requesting 900 96).setCsr { W1.csr with maxSpeedKmh := 0 })).a.iTarget = 96 ∧
    [0, 1, 15, 29, 30].map (fun v => (speedlim ((requesting v 100).setCsr { W1.csr with maxSpeedKmh := 1 })).a.iTarget)
      = [100, 97, 50, 4, 0] := by decide

/-- `requesting` with an auxiliary ADC code. -/
def aux (code : BitVec 10) (s : State) : State := s.setInp { Inputs.zero with adcAux := code }

theorem test_throttle_v57_v58_v59 :
    (overlayThrottle TC1 (aux 111 (requesting 0 45))).a = ⟨49, 254, 160, 80⟩ ∧
    (overlayThrottle TC1 (aux 111 (requesting 0 49))).a = ⟨49, 254, 20, 10⟩ ∧
    (overlayThrottle TC1 (aux 47 (requesting 0 0))).a = ⟨0, 254, 20, 10⟩ ∧
    (overlayThrottle TC1 (aux 200 (requesting 220 0))).a = ⟨100, 254, 90, 45⟩ := by decide

/-- Temperature limits, a settled accumulator and a request of 96. -/
def warm (lo hi : Byte) : State :=
  (aux 150 ((requesting 0 96).setCsr { W1.csr with tempMin := lo, tempMax := hi })).setFilt { W1.filt with tempAcc := 1200 }

theorem test_temp_v59b_v59c :
    (overlayTemp TC1 (warm 65 85)).filt.tempX10 = 731 ∧ (overlayTemp TC1 (warm 65 85)).a = ⟨58, 254, 20, 10⟩ ∧
    (overlayTemp TC1 (warm 70 85)).a.iTarget = 77 := by decide

theorem test_temp_v59d_v59e :
    (overlayTemp TC1 (warm 85 65)).a.iTarget = 0 ∧ (overlayTemp TC1 (warm 70 70)).a.iTarget = 0 ∧
    (overlayTemp TC1 (aux 150 W1)).filt.tempAcc = 150 ∧ (overlayTemp TC1 (aux 150 W1)).filt.tempX10 = 87 := by decide

/-- The throttle through OVERLAY: code 0xFD selects it, code 3 and code 4 do not. -/
theorem test_overlay_v59f :
    [0xFD, 3, 4].map (fun c => (overlay TC1 (aux 200 ((requesting 0 45).setCsr { W1.csr with optFunction := c }))).a.iTarget)
      = [100, 45, 45] := by decide

/-! ### ARBITER: V60 to V69 -/

/-- `W1` with enable flag, motor speed, request and sample. -/
def arbitrating (enabled : Bool) (erps : Nat) (a : DriveTuple) (inp : Inputs) : State :=
  ((((W1.setFlags { W1.flags with motorEnabled := enabled }).setSensor { W1.sensor with motorErps := erps }).setA a).setInp
    inp).setIMax 100

theorem test_arbiter_v60_v61 :
    let s := arbiter TC1 (arbitrating true 0 ⟨0, 0, 160, 80⟩ Inputs.zero)
    let t := arbiter TC1 (arbitrating false 0 ⟨96, 254, 160, 80⟩ Inputs.zero)
    s.flags.motorEnabled = false ∧ s.out.pwmDisable = true ∧ s.drv = ⟨0, 0, 160, 10⟩ ∧
    t.flags.motorEnabled = true ∧ t.out.pwmEnable = true ∧ t.out.dutySeed = 30 ∧ t.out.fwOffsetReset = true ∧
    t.drv = ⟨96, 254, 20, 10⟩ := by decide

theorem test_arbiter_v62_to_v67 :
    (arbiter TC1 (arbitrating false 49 ⟨96, 254, 20, 10⟩ { Inputs.zero with brake := true })).flags.motorEnabled = false ∧
    (arbiter TC1 (arbitrating false 50 ⟨96, 254, 20, 10⟩ Inputs.zero)).drv = ⟨0, 0, 160, 10⟩ ∧
    (arbiter TC1 (arbitrating true 300 ⟨96, 254, 20, 10⟩ { Inputs.zero with adminDisable := true })).drv = ⟨0, 0, 160, 10⟩ ∧
    (arbiter TC1 (arbitrating true 0 ⟨0, 0, 160, 80⟩ { Inputs.zero with dutyNow := 12 })).drv = ⟨0, 0, 160, 80⟩ ∧
    (arbiter TC1 (arbitrating true 300 ⟨120, 255, 5, 3⟩ Inputs.zero)).drv = ⟨100, 254, 20, 10⟩ := by decide

/-! ### COMM and the frames: V80 to V94 -/

/-- `W1` at an exchange with a frame pending. -/
def pending (f : Vector Byte 13) : State :=
  (((storeFrame f W1).setFlags { W1.flags with frameReady := true }).setTickMod4 3).setCnt { W1.cnt with commLossCount := 7 }

theorem test_comm_v80_v82 :
    let s := comm TC1 (pending frameV80)
    let t := comm TC1 (pending frameV82)
    s.csr.mode = 1 ∧ s.csr.param = 100 ∧ s.csr.wheelPerimeterMm = 2100 ∧ s.csr.torquePerStepX100 = 67 ∧
    s.cnt.commLossCount = 0 ∧ s.txCount = 29 ∧ t.csr.mode = 4 ∧ t.csr.iMaxAdc = 100 ∧ t.csr.pMaxW = 1000 := by decide +kernel

theorem test_comm_v83_v84 :
    (comm TC1 (pending frameV83)).csr = W1.csr ∧ (comm TC1 (pending frameV83)).flags.frameReady = false ∧
    (comm TC1 (pending frameV83)).cnt.commLossCount = 8 ∧ (comm TC1 (pending frameV84)).csr = W1.csr := by decide +kernel

theorem test_frame_optfn_v85 :
    let s := frameOptfn TC1 (frameArgs frameV85) W1
    s.csr.mode = 4 ∧ s.csr.param = 25 ∧ s.csr.optFunction = 1 ∧ s.csr.tempMin = 0 := by decide

theorem test_frame_hall_v89 :
    let s := frameHallAngles { (default : FrameArgs) with payload := ⟨1, 2, 3, 4, 5, 6⟩ } W1
    s.out.hallCfgId = 0 ∧ s.out.hallCfgData = ⟨1, 2, 3, 4, 5, 6⟩ ∧ s.out.hallCfgValid = true := by decide

theorem test_frame_hall_offsets_id : (frameHallOffsets default W1).out.hallCfgId = 1 := by decide

/-- V90: no frame, the loss count reaches 20 and the mode is forced to Off. -/
theorem test_comm_v90_v93 :
    let s := (W1.setCsr { W1.csr with mode := 1 }).setCnt { W1.cnt with commLossCount := 19 }
    (comm TC1 s).csr.mode = 0 ∧ (comm TC1 s).cnt.commLossCount = 20 ∧
    (comm TC1 ((s.setTickMod4 3).setTxCount 5)).txRec = s.txRec := by decide

/-! ### Agents -/

/-- V92: the second frame is lost. TxDrain takes one byte. -/
theorem test_agents_v92 :
    rxFrame (rxDeliver frameV82 (rxDeliver frameV80 W1)) = frameV80 ∧ (txDrain (W1.setTxCount 5)).txCount = 4 ∧
    txDrain W1 = W1 := by decide

/-- An outbound frame is 29 bytes, its start byte goes first and its CRC 0x1234 last, as 34 12 (R104, R65). -/
theorem test_outbound_bytes :
    let s := W1.setTxRec { body := { W1.txRec.body with start := 0x43 }, crc := 0x1234 }
    (txFrame s.txRec).length = 29 ∧ (txDrain (s.setTxCount 29)).txSent = some 0x43 ∧
    (txDrain (s.setTxCount 2)).txSent = some 0x34 ∧ (txDrain (s.setTxCount 1)).txSent = some 0x12 :=
  ⟨txFrame_length _, rfl, (txFrame_bytes _).2.2.1, (txFrame_bytes _).2.2.2⟩

/-! ### Witnesses: for every statement of Obligations.lean that has hypotheses, states that meet them, at the
boundaries of each clause. `Config.P` is an arbitrary legal record; where a clause can be empty for some legal record
(a calibration window that begins at tick 0), its witness is stated for TC1, which is a legal record. -/

theorem TC1_legal : TC1.Legal where
  vbatK := by decide
  vbatMvPerStep := by decide
  ibatStepX100 := by decide
  cadenceNum := by decide
  wheelNum := by decide
  ctmSpeedLoX10 := by decide
  ctmSpeedHiX10 := by decide
  ctmTicksLo := by decide
  ctmTicksHi := by decide
  calStartTicks := by decide
  calEndTicks := by decide
  toffInit := by decide
  toffK := by decide
  calCorrection := by decide
  coasterConst := by decide
  tempNum := by decide
  tempDen := by decide
  thrAdcMin := by decide
  thrAdcMax := by decide
  dutyMax := by decide
  dutyStartup := by decide
  adcIAbsMax := by decide
  rampUpMin := by decide
  rampUpDefault := by decide
  rampDownMin := by decide
  rampDownDefault := by decide
  awprRpmPower := by decide
  awprRpmTorque := by decide
  awprRpmEmtb := by decide
  cadPowerPerUnitX100 := by decide
  cadPowerMaxX100 := by decide
  walkSpeedMaxX10 := by decide
  walkRampUp := by decide
  walkICap := by decide
  cruiseSpeedMinX10 := by decide
  cruiseRampUp := by decide
  kp := by decide
  kd := by decide
  kiNum := by decide
  kiDen := by decide
  calRampUp := by decide
  calRampDown := by decide
  thrSpeedHiX10 := by decide
  thrRampUpMin := by decide
  thrRampUpDefault := by decide
  thrRampDownMin := by decide
  thrRampDownDefault := by decide
  commLossTicks := by decide
  lutBound := fun _ _ _ _ _ => Nat.min_le_left _ _
  lutMono := fun level i j _ _ hij _ => by
    have : (i * 64 * level) / 240 ≤ (j * 64 * level) / 240 :=
      Nat.div_le_div_right (Nat.mul_le_mul_right _ (Nat.mul_le_mul_right _ hij))
    simp only [TC1]; omega
  lutFirst := by decide
  lutLast := by decide

/-- A throttle speed breakpoint above 16 bits is legal (spec/00_scope.md R10 asks for LO < HI only) and is kept. -/
theorem test_throttle_speed_has_no_upper_end :
    (TC1.thrSpeedLoX10 < 70000) ∧ ({ TC1 with thrSpeedHiX10 := 70000 } : Params).legalise.thrSpeedHiX10 = 70000 := by
  decide

/-- A state at an exchange, with the frame `f` pending under the CRC of the implementation. -/
def exchanging (f : Vector Byte 13) : State :=
  ((storeFrame (sealFrame Config.P f) State.reset).setFlags { State.reset.flags with frameReady := true }).setTickMod4 3

theorem witness_acceptable : Acceptable Config.P (rxFrame (exchanging frameV80)) := by
  have e : rxFrame (exchanging frameV80) = sealFrame Config.P frameV80 := rxFrame_storeFrame (s := State.reset) rfl
  rw [e]
  refine ⟨rfl, ?_, by decide⟩
  show Config.P.crc16 (crcCovered frameV80) = _
  generalize hc : Config.P.crc16 (crcCovered frameV80) = c
  have e1 : (sealFrame Config.P frameV80)[11] = lowByte c := by rw [← hc]; rfl
  have e2 : (sealFrame Config.P frameV80)[12] = highByte c := by rw [← hc]; rfl
  rw [e1, e2]
  exact (u16le_bytes c).symm

/-- FrameAcceptance: an exchange without an acceptable frame. -/
theorem witness_FrameAcceptance :
    ∃ s : State, s.tickMod4 = 3 ∧ s.flags.frameReady = true ∧ ¬ Acceptable Config.P (rxFrame s) := by
  refine ⟨(State.reset.setTickMod4 3).setFlags { State.reset.flags with frameReady := true }, rfl, rfl, ?_⟩
  intro h
  exact absurd h.1 (by decide)

theorem witness_ReservedModesActAsOff : 8 ≤ (8 : Byte).toNat ∧ 8 ≤ (255 : Byte).toNat := by decide

/-- StepRunsFetchedOperation, StageAdvances: each case. -/
theorem witness_steps : (∃ s t : State, s.stage ≠ 0 ∧ step s = .next t) ∧
    (∃ s t : State, s.stage = 0 ∧ (∃ inp es, s.env = .tick inp :: es) ∧ step s = .next t) ∧
    (∃ s t : State, s.stage = 0 ∧ s.env = [] ∧ (∀ inp es, s.env ≠ .tick inp :: es) ∧ step s = .next t) :=
  ⟨⟨State.reset.setStage 7, _, by decide, rfl⟩,
   ⟨State.reset.setEnv [.tick Inputs.zero], _, rfl, ⟨_, _, rfl⟩, rfl⟩,
   ⟨State.reset, _, rfl, rfl, (by intro _ _ h; cases h), rfl⟩⟩

/-- CommExecutesAcceptedFrame, FrameHallForwards, HostAccessIsBounded: with bytes in flight and with none. -/
theorem witness_CommExecutesAcceptedFrame :
    (∃ s : State, s.tickMod4 = 3 ∧ s.flags.frameReady = true ∧ Acceptable Config.P (rxFrame s) ∧ s.txCount = 0) ∧
    ∃ s : State, s.tickMod4 = 3 ∧ s.flags.frameReady = true ∧ Acceptable Config.P (rxFrame s) ∧ s.txCount ≠ 0 :=
  ⟨⟨exchanging frameV80, rfl, rfl, witness_acceptable, rfl⟩,
   ⟨(exchanging frameV80).setTxCount 1, rfl, rfl, witness_acceptable, by decide⟩⟩

/-- IdleWaitsOrSamples, TickIsEightSteps. -/
theorem witness_TickIsEightSteps :
    (∃ (s : State) (inp : Inputs) (es : List Event), s.stage = 0 ∧ s.env = .tick inp :: es) ∧
    ∃ s : State, ∀ inp es, s.env ≠ .tick inp :: es :=
  ⟨⟨State.reset.setEnv [.tick Inputs.zero, .txDrain], _, _, rfl, rfl⟩,
   ⟨State.reset.setEnv [.rst], by intro _ _ h; cases h⟩⟩

/-- TransportAgentsStep: each case, the TX agent at every count. -/
theorem witness_TransportAgentsStep :
    (∃ (s : State) (f : Vector Byte 13) (es : List Event), s.stage = 0 ∧ s.env = .rxDeliver f :: es ∧ MemoryCanonical s ∧
      s.flags.frameReady = false) ∧
    (∃ (s : State) (f : Vector Byte 13) (es : List Event), s.stage = 0 ∧ s.env = .rxDeliver f :: es ∧ MemoryCanonical s ∧
      s.flags.frameReady = true) ∧
    (∃ (s : State) (es : List Event), s.stage = 0 ∧ s.env = .txDrain :: es ∧ s.txCount ≠ 0) ∧
    (∃ (s : State) (es : List Event), s.stage = 0 ∧ s.env = .txDrain :: es ∧ s.txCount = 0) ∧
    (∀ n : Nat, ∃ (s : State) (es : List Event), s.stage = 0 ∧ s.env = .txDrain :: es ∧ s.txCount = n) ∧
    ∃ (s : State) (es : List Event), s.stage = 0 ∧ s.env = List.replicate 29 .txDrain ++ es ∧ s.txCount = 29 :=
  ⟨⟨State.reset.setEnv [.rxDeliver frameV80], _, _, rfl, rfl, rfl, rfl⟩,
   ⟨(State.reset.setEnv [.rxDeliver frameV80]).setFlags { State.reset.flags with frameReady := true }, _, _, rfl, rfl, rfl, rfl⟩,
   ⟨(State.reset.setEnv [.txDrain]).setTxCount 1, _, rfl, rfl, by decide⟩,
   ⟨State.reset.setEnv [.txDrain], _, rfl, rfl, rfl⟩,
   fun n => ⟨(State.reset.setEnv [.txDrain]).setTxCount n, [], rfl, rfl, rfl⟩,
   ⟨(State.reset.setEnv (List.replicate 29 .txDrain)).setTxCount 29, [], rfl, rfl, rfl⟩⟩

theorem witness_RstStep : ∃ (s : State) (es : List Event), s.stage = 0 ∧ s.env = .rst :: es :=
  ⟨W1.setEnv [.rst], _, rfl, rfl⟩

/-- SenseCalibratesTorque: the four cases at their boundary counts; the first two under TC1. -/
theorem witness_SenseCalibratesTorque :
    (∃ s : State, s.cnt.calTicks < TC1.calStartTicks ∧ s.cnt.calTicks + 1 = TC1.calStartTicks) ∧
    (∃ s : State, TC1.calStartTicks = s.cnt.calTicks ∧ s.cnt.calTicks < TC1.calEndTicks) ∧
    (∃ s : State, s.cnt.calTicks = Config.P.calEndTicks) ∧ ∃ s : State, Config.P.calEndTicks + 1 = s.cnt.calTicks :=
  ⟨⟨W1.setCnt { W1.cnt with calTicks := 39 }, by decide⟩, ⟨W1.setCnt { W1.cnt with calTicks := 40 }, by decide⟩,
   ⟨W1.setCnt { W1.cnt with calTicks := Config.P.calEndTicks }, rfl⟩,
   ⟨W1.setCnt { W1.cnt with calTicks := Config.P.calEndTicks + 1 }, rfl⟩⟩

/-- HealthMotorBlocked, HealthFaultCode: each case at its boundary. -/
theorem witness_HealthMotorBlocked :
    ((blocked 51 9 9).flags.mbFault = false ∧ 50 < (blocked 51 9 9).sensor.ibatX10 ∧
      (blocked 51 9 9).sensor.motorErps < 10 ∧ (blocked 51 9 9).cnt.mbCount + 1 = 10) ∧
    ((blocked 51 9 8).flags.mbFault = false ∧ 50 < (blocked 51 9 8).sensor.ibatX10 ∧
      (blocked 51 9 8).sensor.motorErps < 10 ∧ (blocked 51 9 8).cnt.mbCount + 1 ≠ 10) ∧
    ((blocked 50 9 9).flags.mbFault = false ∧
      ¬ (50 < (blocked 50 9 9).sensor.ibatX10 ∧ (blocked 50 9 9).sensor.motorErps < 10)) ∧
    ((latched 99).flags.mbFault = true ∧ (latched 99).cnt.mbResetCount + 1 = 100) ∧
    (latched 98).flags.mbFault = true ∧ (latched 98).cnt.mbResetCount + 1 ≠ 100 := by decide

/-- MotorBlockedTiming: the condition holds in every tick, HEALTH after HEALTH. -/
theorem witness_MotorBlockedTiming : ∃ s u : Nat → State,
    (∀ n, exec .health (s n) = .next (u n)) ∧
    (∀ n, (s (n + 1)).flags.mbFault = (u n).flags.mbFault ∧ (s (n + 1)).cnt.mbCount = (u n).cnt.mbCount ∧
      (s (n + 1)).cnt.mbResetCount = (u n).cnt.mbResetCount) ∧
    (s 0).flags.mbFault = false ∧ (s 0).cnt.mbCount = 0 ∧
    ∀ k, k < 10 → 50 < (s (0 + k)).sensor.ibatX10 ∧ (s (0 + k)).sensor.motorErps < 10 := by
  let r : Nat → State := fun n => Nat.rec (blocked 51 9 0) (fun _ s => health s) n
  have hr : ∀ n, (r n).sensor = (blocked 51 9 0).sensor := by
    intro n
    induction n with
    | zero => rfl
    | succ n ih =>
      show (health (r n)).sensor = _
      rw [health_eq, ← ih]
      simp
  refine ⟨r, fun n => health (r n), fun n => rfl, fun n => ⟨rfl, rfl, rfl⟩, rfl, rfl, fun k _ => ?_⟩
  rw [hr]
  decide

/-- OneWriterEach, SpeedLimiterBand, LawStaysWithinLimits and the invariants: a next state to speak of. -/
theorem witness_exec (i : Instr) : ∃ s t : State, exec i s = .next t := by
  refine ⟨State.reset, ?_⟩
  cases i <;> exact ⟨_, rfl⟩

/-- EffectiveCadenceAndCurrent: threshold 20 and delta 91 just exceed, 90 does not; threshold 255 with deltas 1 and 0. -/
theorem witness_EffectiveCadenceAndCurrent :
    ((rolling 91).csr.awprThreshold.toNat ≠ 0 ∧ (rolling 91).sensor.wheelSpeedX10 = 0 ∧
      (rolling 91).sensor.cadenceRpm = 0 ∧ (110 : Int) - (rolling 91).csr.awprThreshold.toNat < (rolling 91).sensor.torqueDelta ∧
      0 < (rolling 91).sensor.torqueDelta) ∧
    ((rolling 90).sensor.torqueDelta : Int) ≤ 110 - (rolling 90).csr.awprThreshold.toNat ∧
    (rolling 0).sensor.torqueDelta = 0 ∧ (laying 0 1 0).csr.awprThreshold.toNat = 0 ∧ (laying 0 0 1).sensor.wheelSpeedX10 ≠ 0 ∧
    (laying 1 0 0).sensor.cadenceRpm ≠ 0 ∧ W1.sensor.vbatX1000 ≠ 0 ∧ (State.resetWith TC1).sensor.vbatX1000 = 0 := by
  decide

/-- CadenceLaw, TorqueLaw, EmtbLaw: acting and not; the effective cadence is the measured one here. -/
theorem witness_assist_laws :
    (laying 1 0 0).sensor.cadenceRpm ≠ 0 ∧ (laying 0 0 0).sensor.cadenceRpm = 0 ∧
    (∀ n, effCadence n (laying 1 1 0) ≠ 0 ∧ (laying 1 1 0).sensor.torqueDelta ≠ 0) ∧
    (∀ n, ¬ (effCadence n (laying 1 0 0) ≠ 0 ∧ (laying 1 0 0).sensor.torqueDelta ≠ 0)) ∧
    (∀ n, ¬ (effCadence n (laying 0 1 0) ≠ 0 ∧ (laying 0 1 0).sensor.torqueDelta ≠ 0)) ∧
    (1 ≤ (1 : Byte).toNat ∧ (1 : Byte).toNat ≤ 20 ∧ 1 ≤ (20 : Byte).toNat ∧ (20 : Byte).toNat ≤ 20) ∧
    ¬ (1 ≤ (0 : Byte).toNat) ∧ ¬ ((21 : Byte).toNat ≤ 20) := by
  have e1 : ∀ n, effCadence n (laying 1 1 0) = 1 := fun _ => rfl
  have e0 : ∀ n, effCadence n (laying 0 1 0) = 0 := fun _ => rfl
  exact ⟨by decide, by decide, fun n => ⟨by rw [e1]; decide, by decide⟩, fun n h => absurd h.2 (by decide),
    fun n h => h.1 (e0 n), by decide, by decide, by decide⟩

/-- WalkLaw: just below the threshold under TC1; at the threshold. -/
theorem witness_WalkLaw :
    (laying 0 0 79).sensor.wheelSpeedX10 < TC1.walkSpeedMaxX10 ∧
    ∃ s : State, Config.P.walkSpeedMaxX10 = s.sensor.wheelSpeedX10 :=
  ⟨by decide, laying 0 0 Config.P.walkSpeedMaxX10, rfl⟩

/-- CruiseActive, CruiseHoldsAndRearms: just above the threshold with and without initialisation pending, and at it. -/
theorem witness_CruiseActive :
    (∃ s : State, Config.P.cruiseSpeedMinX10 < s.sensor.wheelSpeedX10 ∧ s.flags.cruiseInitPending = true) ∧
    (∃ s : State, Config.P.cruiseSpeedMinX10 < s.sensor.wheelSpeedX10 ∧ s.flags.cruiseInitPending = false) ∧
    (∃ s : State, s.sensor.wheelSpeedX10 = Config.P.cruiseSpeedMinX10 ∧ modeOf s.csr.mode = .cruise) ∧
    (∃ s : State, Config.P.cruiseSpeedMinX10 < s.sensor.wheelSpeedX10 ∧ modeOf s.csr.mode = .cruise) ∧
    ∃ s : State, modeOf s.csr.mode ≠ .cruise :=
  ⟨⟨laying 0 0 (Config.P.cruiseSpeedMinX10 + 1), Nat.lt_succ_self _, rfl⟩,
   ⟨(laying 0 0 (Config.P.cruiseSpeedMinX10 + 1)).setFlags { W1.flags with cruiseInitPending := false },
     Nat.lt_succ_self _, rfl⟩,
   ⟨(laying 0 0 Config.P.cruiseSpeedMinX10).setCsr { W1.csr with mode := 6 }, rfl, by decide⟩,
   ⟨(laying 0 0 (Config.P.cruiseSpeedMinX10 + 1)).setCsr { W1.csr with mode := 6 }, Nat.lt_succ_self _, by decide⟩,
   ⟨W1, by decide⟩⟩

/-- LawStaysWithinLimits: both kinds of mode. -/
theorem witness_LawStaysWithinLimits :
    (∃ s t : State, exec .law s = .next t ∧ modeOf s.csr.mode = .walk) ∧
    ∃ s t : State, exec .law s = .next t ∧ modeOf s.csr.mode ≠ .walk :=
  ⟨⟨W1.setCsr { W1.csr with mode := 5 }, _, rfl, by decide⟩, ⟨W1, _, rfl, by decide⟩⟩

/-- ShapedRampsInRange: at 20 km/h, at 70 RPM, and at 4 km/h with 20 RPM. -/
theorem witness_ShapedRampsInRange :
    200 ≤ (laying 0 0 200).sensor.wheelSpeedX10 ∧ (200 ≤ (laying 0 0 0).sensor.wheelSpeedX10 ∨ 70 ≤ 70) ∧
    ((laying 0 0 40).sensor.wheelSpeedX10 ≤ 40 ∧ 20 ≤ 20) := by decide

/-- LookupTable: torque deltas in order at the saturated end. -/
theorem witness_LookupTable : ∃ s t : State, s.sensor.torqueDelta ≤ t.sensor.torqueDelta ∧
    emtbIndex s = 239 ∧ emtbIndex t = 240 := ⟨laying 0 229 0, laying 0 230 0, by decide, by decide, by decide⟩

/-- ThrottleOverlay: the throttle fully open asks for the ceiling, which is above the request or equal to it. -/
theorem witness_ThrottleOverlay :
    let i := fun s : State => (lerp s.inp.adcAux.toNat Config.P.thrAdcMin Config.P.thrAdcMax 0 255 * s.iMax) / 255
    (aux 1023 (requesting 0 99)).a.iTarget < i (aux 1023 (requesting 0 99)) ∧
    i (aux 1023 (requesting 0 100)) = (aux 1023 (requesting 0 100)).a.iTarget := by
  have h := Config.P_legal.thrAdcMax
  have e : lerp 1023 Config.P.thrAdcMin Config.P.thrAdcMax 0 255 = 255 := lerp_high (by omega) h.2
  refine ⟨?_, ?_⟩
  · show 99 < (lerp 1023 _ _ 0 255 * 100) / 255
    rw [e]; decide
  · show (lerp 1023 _ _ 0 255 * 100) / 255 = 100
    rw [e]

/-- TempOverlay: limits in order, equal and reversed. -/
theorem witness_TempOverlay :
    (warm 70 71).csr.tempMin.toNat < (warm 70 71).csr.tempMax.toNat ∧
    (warm 70 70).csr.tempMax.toNat ≤ (warm 70 70).csr.tempMin.toNat ∧
    (warm 85 65).csr.tempMax.toNat ≤ (warm 85 65).csr.tempMin.toNat := by decide

/-- `requesting` with a maximum speed. -/
def limited (speed i : Nat) (m : Byte) : State := (requesting speed i).setCsr { W1.csr with maxSpeedKmh := m }

/-- SpeedLimiter, SpeedLimiterBand: no limit, both ends of the band, its centre, and a limit of 1 km/h. -/
theorem witness_SpeedLimiterBand :
    (limited 900 96 0).csr.maxSpeedKmh = 0 ∧ (limited 230 96 25).csr.maxSpeedKmh ≠ 0 ∧
    (limited 230 96 25).sensor.wheelSpeedX10 + 20 = (limited 230 96 25).csr.maxSpeedKmh.toNat * 10 ∧
    (2 ≤ (limited 20 97 2).csr.maxSpeedKmh.toNat ∧
      (limited 20 97 2).sensor.wheelSpeedX10 = (limited 20 97 2).csr.maxSpeedKmh.toNat * 10) ∧
    (limited 270 96 25).csr.maxSpeedKmh.toNat * 10 + 20 = (limited 270 96 25).sensor.wheelSpeedX10 ∧
    ((limited 269 1 25).sensor.wheelSpeedX10 < (limited 269 1 25).csr.maxSpeedKmh.toNat * 10 + 20 ∧
      (limited 269 1 25).a.iTarget ≠ 0) ∧ (limited 29 1 1).csr.maxSpeedKmh ≠ 0 := by decide

/-- OverlaysKeepTheCeiling: a request at the ceiling, through each of the four operations. -/
theorem witness_OverlaysKeepTheCeiling : ∃ s : State, s.a.iTarget ≤ s.iMax ∧ (∃ t, exec .overlay s = .next t) ∧
    (∃ t, exec .speedlim s = .next t) ∧ (∃ t, exec .ovlTemp s = .next t) ∧ ∃ t, exec .ovlThrottle s = .next t :=
  ⟨requesting 250 100, by decide, ⟨_, rfl⟩, ⟨_, rfl⟩, ⟨_, rfl⟩, ⟨_, rfl⟩⟩

/-- EnableStateMachine: stop, start at the last speed that allows it, and neither at the first that does not. -/
theorem witness_EnableStateMachine :
    (let s := arbitrating true 0 ⟨0, 0, 160, 80⟩ Inputs.zero
     s.flags.motorEnabled = true ∧ s.sensor.motorErps = 0 ∧ s.a.iTarget = 0 ∧ s.inp.dutyNow = 0) ∧
    (let s := arbitrating false 49 ⟨1, 254, 160, 80⟩ Inputs.zero
     s.flags.motorEnabled = false ∧ s.sensor.motorErps < 50 ∧ s.a.iTarget ≠ 0 ∧ s.inp.brake = false) ∧
    (let s := arbitrating false 50 ⟨1, 254, 160, 80⟩ Inputs.zero
     ¬ (s.flags.motorEnabled = true) ∧ ¬ (s.sensor.motorErps < 50)) := by decide

/-- ArbiterCommits: inhibited by each cause alone, and not inhibited. -/
theorem witness_ArbiterCommits :
    (∃ s t : State, exec .arbiter s = .next t ∧ s.inp.brake = true) ∧
    (∃ s t : State, exec .arbiter s = .next t ∧ s.csr.fault ≠ 0) ∧
    (∃ s t : State, exec .arbiter s = .next t ∧ s.inp.adminDisable = true) ∧
    (∃ s t : State, exec .arbiter s = .next t ∧ t.flags.motorEnabled = false) ∧
    ∃ s t : State, exec .arbiter s = .next t ∧ t.flags.motorEnabled = s.flags.motorEnabled ∧
      ¬ (s.inp.brake = true ∨ s.csr.fault ≠ 0 ∨ s.inp.adminDisable = true ∨ t.flags.motorEnabled = false) :=
  ⟨⟨arbitrating true 300 ⟨1, 1, 20, 10⟩ { Inputs.zero with brake := true }, _, rfl, rfl⟩,
   ⟨W1.setCsr { W1.csr with fault := 2 }, _, rfl, by decide⟩,
   ⟨arbitrating true 300 ⟨1, 1, 20, 10⟩ { Inputs.zero with adminDisable := true }, _, rfl, rfl⟩,
   ⟨arbitrating false 50 ⟨1, 1, 20, 10⟩ Inputs.zero, _, rfl, rfl⟩,
   ⟨arbitrating true 300 ⟨1, 1, 20, 10⟩ Inputs.zero, _, rfl, rfl, by
     show ¬ (false = true ∨ (0 : Byte) ≠ 0 ∨ false = true ∨ true = false)
     decide⟩⟩

/-- CommWithoutFrame: no exchange; an exchange with and without bytes in flight; the loss count reaching its end, and
under TC1 one short of it. -/
theorem witness_CommWithoutFrame :
    (∃ s : State, s.tickMod4 ≠ 3 ∧ (s.tickMod4 = 3 → s.flags.frameReady = true → ¬ Acceptable Config.P (rxFrame s)) ∧
      Config.P.commLossTicks ≤ s.cnt.commLossCount + 1) ∧
    (∃ s : State, s.tickMod4 = 3 ∧ (s.tickMod4 = 3 → s.flags.frameReady = true → ¬ Acceptable Config.P (rxFrame s)) ∧
      s.txCount = 0) ∧
    (∃ s : State, s.tickMod4 = 3 ∧ (s.tickMod4 = 3 → s.flags.frameReady = true → ¬ Acceptable Config.P (rxFrame s)) ∧
      s.txCount ≠ 0) ∧
    ∃ s : State, s.cnt.commLossCount + 1 + 1 = TC1.commLossTicks :=
  ⟨⟨W1.setCnt { W1.cnt with commLossCount := Config.P.commLossTicks - 1 }, by decide,
     (fun h => absurd h (by decide)), by
       show Config.P.commLossTicks ≤ Config.P.commLossTicks - 1 + 1
       omega⟩,
   ⟨W1.setTickMod4 3, rfl, (fun _ h => absurd h (by decide)), rfl⟩,
   ⟨(W1.setTickMod4 3).setTxCount 29, rfl, (fun _ h => absurd h (by decide)), by decide⟩,
   ⟨W1.setCnt { W1.cnt with commLossCount := 18 }, by decide⟩⟩

/-- OutboundRecord: an exchange with no bytes in flight, readings at the ends of their registers. -/
theorem witness_OutboundRecord : ∃ s t : State, exec .comm s = .next t ∧ s.tickMod4 = 3 ∧ s.txCount = 0 ∧
    s.sensor.cadenceRpm = 255 ∧ s.sensor.motorErps = 65535 :=
  ⟨(W1.setTickMod4 3).setSensor { W1.sensor with cadenceRpm := 255, motorErps := 65535 }, _, rfl, rfl, rfl, rfl, rfl⟩

/-- FrameLimitsApplies, FrameWheelAssistApplies, FrameOptfnApplies: a record with the default layout. -/
theorem witness_default_layout : ∃ P : Params, P.Legal ∧ P.decodePayload = defaultDecodePayload :=
  ⟨TC1, TC1_legal, rfl⟩

/-- PendingFrameIsInvisible: two states that differ in a pending frame, at the first and at the last stage it speaks of. -/
theorem witness_PendingFrameIsInvisible : ∃ s t s' t' : State, SameButTransport s t ∧ s ≠ t ∧ s.stage ≠ 0 ∧ s.stage ≠ 7 ∧
    step s = .next s' ∧ step t = .next t' := by
  refine ⟨W1.setStage 1, (W1.setStage 1).setFlags { W1.flags with frameReady := true }, _, _, ?_, ?_, by decide, by decide,
    rfl, rfl⟩
  · exact ⟨rfl, rfl, rfl, rfl, rfl, rfl, rfl, rfl, rfl, rfl, rfl, rfl⟩
  · intro h
    exact absurd (congrArg (fun s : State => s.flags.frameReady) h) (by decide)

/-- The invariants: a state in the middle of a tick (after LAW) in which a current of 0 is requested and nothing is
committed. -/
def midTick : State := State.reset.setStage 4

theorem witness_LimitsAreKept : ∃ s t : State, DriveLimits Config.P s ∧ CurrentBounded Config.P s ∧ step s = .next t := by
  have h := Config.P_legal
  refine ⟨midTick, _, ⟨Nat.zero_le _, ?_, Nat.le_refl _⟩,
    ⟨fun _ => Nat.le_refl _, fun _ => ⟨Nat.le_refl _, Nat.zero_le _⟩, ⟨Nat.zero_le _, Nat.zero_le _⟩, fun _ => Nat.le_refl _⟩, rfl⟩
  exact h.rampUpDefault.1

theorem witness_InhibitionIsKept : ∃ s t : State, InhibitedIsSafe Config.P s ∧ step s = .next t ∧ s.stage = 7 ∧
    s.flags.motorEnabled = false := by
  exact ⟨State.reset.setStage 7, _, fun _ _ => rfl, rfl, rfl, rfl⟩

theorem witness_MemoryFaultCodeAndCruiseAreKept : ∃ s t : State, step s = .next t ∧ MemoryCanonical s ∧ FaultCodeAgrees s ∧
    PidBounded s :=
  ⟨W1.setStage 2, _, rfl, rfl, rfl, by decide, by decide, by decide, by decide⟩

theorem witness_NoLimitsNoMotor : ∃ s t : State, step s = .next t ∧ (s.csr.iMaxAdc = 0 ∨ s.csr.pMaxW = 0) ∧
    s.flags.motorEnabled = false ∧ LawHasRun s ∧ (LawHasRun s → s.iMax = 0 ∧ s.a.iTarget = 0) :=
  ⟨midTick, _, rfl, .inl rfl, rfl, Nat.le_refl 4, fun _ => ⟨rfl, rfl⟩⟩

theorem witness_WidthsAreKept : ∃ s t : State, WithinWidths Config.P s ∧ step s = .next t := by
  have h := Config.P_legal
  have h1 := h.rampUpDefault
  have h2 := h.rampDownDefault
  have h3 := h.rampDownMin
  have h4 := h.toffInit
  refine ⟨midTick, _, ?_, rfl⟩
  constructor
  all_goals first
    | decide
    | exact Nat.zero_le _
    | exact h.ctmTicksLo
    | exact ⟨by decide, by decide⟩
    | exact ⟨Nat.zero_le _, Nat.zero_le _, h1.2, h2.2⟩
    | exact ⟨Nat.zero_le _, Nat.zero_le _, h1.2, by show Config.P.rampDownMin ≤ 65535; omega⟩
    | exact Nat.mul_le_mul_right _ h4
    | exact fun _ => h4
    | (show Config.P.toffInit ≤ 2046; omega)

/-! ### Steps of a placed instruction -/

theorem test_step_placed_codes :
    step (State.reset.withFetchWord 8 1) = exec .sense (State.reset.withFetchWord 8 1) ∧
    step (State.reset.withFetchWord 16 0x0164) = exec .law (State.reset.withFetchWord 16 0x0164) ∧
    (State.reset.withFetchWord 16 0x0164).csr.mode = 1 ∧ (State.reset.withFetchWord 16 0x0164).csr.param = 100 ∧
    step (State.reset.withFetchWord 2 2) = exec .overlay (State.reset.withFetchWord 2 2) ∧
    ovlBits (State.reset.withFetchWord 2 2).csr.optFunction = 2 := by
  refine ⟨rfl, rfl, by decide, by decide, rfl, by decide⟩

end Sys2Proof.Tests
end

section
/-! SUPPORT. Upper bounds of the arithmetic primitives. -/

namespace Sys2Proof.Machine

/-- Interpolation stays below any bound on its two end values. -/
theorem lerp_le {x x0 x1 y0 y1 b : Nat} (h0 : y0 ≤ b) (h1 : y1 ≤ b) : lerp x x0 x1 y0 y1 ≤ b := by
  rcases Nat.lt_or_ge x0 x with hl | hl
  · rcases Nat.lt_or_ge x x1 with hr | hr
    · rcases Nat.lt_or_ge y1 y0 with hy | hy
      · rw [lerp_falling hl hr hy]
        exact (Nat.sub_le _ _).trans h0
      · rw [lerp_rising hl hr hy]
        have hspan : (x - x0) * (y1 - y0) / (x1 - x0) ≤ y1 - y0 := span_le (by omega) (by omega)
        omega
    · exact (lerp_high hl hr).trans_le h1
  · exact (lerp_low hl).trans_le h0

/-- The filter keeps its accumulator's bound (spec/40_arith_primitives.md R138). -/
theorem iir_le {acc raw k m : Nat} (hr : raw ≤ m) (ha : acc ≤ m * 2 ^ k) : iir acc raw k ≤ m * 2 ^ k := by
  have hk : 0 < 2 ^ k := Nat.two_pow_pos k
  unfold iir shiftRight
  generalize 2 ^ k = K at hk ha ⊢
  have hself : acc / K ≤ acc := Nat.div_le_self acc K
  have hacc : acc < K * (acc / K + 1) := Nat.lt_mul_div_succ acc hk
  generalize acc / K = q at hself hacc ⊢
  rcases Nat.lt_or_ge q m with hq | hq
  · obtain ⟨d, rfl⟩ : ∃ d, m = q + 1 + d := ⟨m - (q + 1), by omega⟩
    have hd : d ≤ d * K := Nat.le_mul_of_pos_right d hk
    have hsum : (q + 1 + d) * K = K * (q + 1) + d * K := by ring
    omega
  · omega

theorem shiftRight_le {acc k m : Nat} (h : acc ≤ m * 2 ^ k) : shiftRight acc k ≤ m :=
  Nat.div_le_of_le_mul (by rwa [Nat.mul_comm])

end Sys2Proof.Machine
end

section
/-! SUPPORT. What the agents and IDLE can write, said once for the invariants below. -/

namespace Sys2Proof.Machine

/-- What an agent can do between ticks: the power-on reset, or writes to the receive buffer, its flag, the byte last
sent and a count of bytes left that does not grow (spec/20_memory.md R70, R72; spec/70_reset_and_hazards.md R400). -/
theorem agentStep_exists (P : Params) (e : Event) (s : State) :
    agentStep P e s = powerOnReset P (s.setEnv s.env.tail) ∨
    ∃ (m : Memory) (b : Bool) (x : Option Byte) (n : Nat), n ≤ s.txCount ∧
      agentStep P e s = { s with
        env := s.env.tail, rxBuf := m, flags := { s.flags with frameReady := b }, txSent := x, txCount := n } := by
  cases e with
  | tick inp => exact .inr ⟨s.rxBuf, s.flags.frameReady, s.txSent, s.txCount, le_rfl, rfl⟩
  | rxDeliver f =>
    refine .inr ?_
    simp only [agentStep, agentEffect, rxDeliver]
    split_ifs
    · exact ⟨s.rxBuf, s.flags.frameReady, s.txSent, s.txCount, le_rfl, rfl⟩
    · exact ⟨Memory.writeBytes 0 f.toList s.rxBuf, true, s.txSent, s.txCount, le_rfl, rfl⟩
  | txDrain =>
    refine .inr ?_
    simp only [agentStep, agentEffect]
    rcases txDrain_cases (s.setEnv s.env.tail) with ⟨_, h⟩ | ⟨_, b, _, h⟩ <;> rw [h]
    · exact ⟨s.rxBuf, s.flags.frameReady, s.txSent, s.txCount, le_rfl, rfl⟩
    · exact ⟨s.rxBuf, s.flags.frameReady, some b, s.txCount - 1, Nat.sub_le _ _, rfl⟩
  | rst => exact .inl rfl

/-- IDLE begins a tick with the next sample, or waits (spec/47_sequencer_host.md R330). -/
theorem idle_exists (s : State) :
    (∃ inp es, idle s = (clearStrobes ((s.setEnv es).setInp inp)).setStage 1) ∨ idle s = s := by
  unfold idle
  split
  · exact .inl ⟨_, _, rfl⟩
  all_goals exact .inr rfl

end Sys2Proof.Machine
end

section
/-! SUPPORT. The widths of the registers (spec/10_state.md R24, spec/40_arith_primitives.md R131): each rule of a stage
keeps all of them, so each stage does, so each step does. A lemma `WithinWidths.f` says so of the model's `f`. -/

namespace Sys2Proof.Safety
open Sys2Proof.Machine

theorem adc_le (x : BitVec 10) : x.toNat ≤ 1023 := Nat.le_of_lt_succ x.isLt

theorem byte_le (x : Byte) : x.toNat ≤ 255 := Nat.le_of_lt_succ x.isLt

theorem half_le (x : Half) : x.toNat ≤ 65535 := Nat.le_of_lt_succ x.isLt

namespace WithinWidths

variable {P : Params} {s : State}

theorem setStage (x : BitVec 3) (h : WithinWidths P s) : WithinWidths P (s.setStage x) := { h with }

theorem setA {a : DriveTuple} (h : WithinWidths P s) (ha : TupleFits a) : WithinWidths P (s.setA a) :=
  { h with assist := ha }

theorem setDrv {d : DriveTuple} (h : WithinWidths P s) (hd : TupleFits d) : WithinWidths P (s.setDrv d) :=
  { h with drive := hd }

/-! ### SENSE -/

theorem senseVbat (hP : P.Legal) (h : WithinWidths P s) : WithinWidths P (senseVbat P s) :=
  have hacc := iir_le (adc_le s.inp.adcVbat) h.vbatAcc
  { h with vbatAcc := hacc, vbatX1000 := Nat.mul_le_mul (shiftRight_le hacc) hP.vbatMvPerStep.2 }

theorem senseIbat (hP : P.Legal) (h : WithinWidths P s) : WithinWidths P (senseIbat P s) :=
  { h with
    ibatX10 := Nat.div_le_div_right (c := 10) (Nat.mul_le_mul (adc_le s.inp.adcIbatFilt) hP.ibatStepX100.2) }

theorem senseWheel (h : WithinWidths P s) : WithinWidths P (senseWheel P s) :=
  { h with
    wheelSpeedX10 := by
      simp only [Machine.senseWheel, setSensor_sensor]
      split_ifs
      · exact Nat.zero_le _
      · exact Nat.min_le_left _ _ }

theorem senseCadence (h : WithinWidths P s) : WithinWidths P (senseCadence P s) :=
  { h with
    cadenceRpm := by
      simp only [Machine.senseCadence, setSensor_sensor]
      split_ifs
      · exact Nat.zero_le _
      · exact Nat.min_le_left _ _ }

theorem senseTicksMin (hP : P.Legal) (h : WithinWidths P s) : WithinWidths P (senseTicksMin P s) :=
  { h with cadenceTicksMin := lerp_le hP.ctmTicksLo hP.ctmTicksHi }

theorem senseErps (h : WithinWidths P s) : WithinWidths P (senseErps s) :=
  { h with motorErps := half_le _ }

/-- The correction at the end of the window is applied once: the offset it meets is the uncorrected one, and the count
passes the window's end in the same tick. -/
theorem countCalTick_calibrate (hP : P.Legal) (h : WithinWidths P s) :
    WithinWidths P (countCalTick P (calibrate P s)) := by
  have hcount : min (s.cnt.calTicks + 1) (P.calEndTicks + 1) ≤ P.calEndTicks + 1 := Nat.min_le_right _ _
  have hstart := hP.calEndTicks.1
  unfold calibrate
  split_ifs with before within atEnd
  · exact { h with
      calTicks := hcount
      offsetUncorrected := fun _ => h.offsetUncorrected (by omega) }
  · have hacc := iir_le (adc_le s.inp.adcTorque) h.toffAcc
    have hoff := shiftRight_le hacc
    exact { h with
      calTicks := hcount
      toffAcc := hacc
      torqueOffset := hoff.trans (by decide)
      offsetUncorrected := fun _ => hoff }
  · have hoff : (max 0 ((s.filt.torqueOffset : Int) + P.calCorrection)).toNat ≤ 2046 := by
      have := h.offsetUncorrected atEnd.le
      have := hP.calCorrection
      omega
    exact { h with
      calTicks := hcount
      torqueOffset := hoff
      coasterThr := (Nat.sub_le _ _).trans hoff
      offsetUncorrected := fun hlt => by
        simp only [countCalTick, calibEnd, setCnt_cnt, setFlags_cnt, setFilt_cnt] at hlt
        omega }
  · exact { h with
      calTicks := hcount
      offsetUncorrected := fun hlt => by
        simp only [countCalTick, setCnt_cnt] at hlt
        omega }

theorem senseTorque (h : WithinWidths P s) : WithinWidths P (senseTorque s) :=
  have hadc := adc_le s.inp.adcTorque
  { h with torqueAdc := hadc, torqueDelta := (Nat.sub_le _ _).trans hadc }

theorem senseTorquePhys (h : WithinWidths P s) : WithinWidths P (senseTorquePhys s) :=
  { h with torqueX100 := Nat.mul_le_mul h.torqueDelta (byte_le _) }

theorem sense (hP : P.Legal) (h : WithinWidths P s) : WithinWidths P (sense P s) :=
  have measured := ((h.senseVbat hP).senseIbat hP).senseWheel.senseCadence.senseTicksMin hP
  (measured.senseErps.countCalTick_calibrate hP).senseTorque.senseTorquePhys.setStage 2

/-! ### HEALTH -/

theorem detectMotorBlocked (h : WithinWidths P s) : WithinWidths P (detectMotorBlocked s) := by
  have hclear := h.mbResetCount
  have hlatch := h.mbCount
  simp only [Machine.detectMotorBlocked, Config.MB_CLEAR_TICKS, Config.MB_LATCH_TICKS]
  split_ifs
  · exact { h with mbCount := Nat.zero_lt_succ _, mbResetCount := Nat.zero_lt_succ _ }
  · exact { h with mbResetCount := (by omega : s.cnt.mbResetCount + 1 < 100) }
  · exact { h with mbCount := Nat.zero_lt_succ _, mbResetCount := Nat.zero_lt_succ _ }
  · exact { h with mbCount := (by omega : s.cnt.mbCount + 1 < 10) }
  · exact { h with mbCount := Nat.zero_lt_succ _ }

theorem health (h : WithinWidths P s) : WithinWidths P (health s) := { h.detectMotorBlocked with }

/-! ### LAW -/

theorem setCurrent (hP : P.Legal) (i : Nat) (h : WithinWidths P s) : WithinWidths P (setCurrent P i s) := by
  obtain ⟨_, hduty, hup, hdown⟩ := h.assist
  refine h.setA ⟨(Nat.min_le_right _ _).trans h.iMax, ?_, hup, hdown⟩
  split_ifs
  · exact hP.dutyMax.2
  · exact hduty

theorem rampShape (hP : P.Legal) (cad : Nat) (h : WithinWidths P s) : WithinWidths P (rampShape P cad s) := by
  obtain ⟨hcur, hduty, _, _⟩ := h.assist
  exact h.setA ⟨hcur, hduty, (Nat.min_le_left _ _).trans (lerp_le hP.rampUpDefault.2 hP.rampUpMin.2),
    (Nat.min_le_left _ _).trans (lerp_le hP.rampDownDefault.2 hP.rampDownMin.2)⟩

theorem cruiseInit (p : Byte) (h : WithinWidths P s) : WithinWidths P (cruiseInit p s) :=
  { h with
    pidError := (by decide : (-65535 : Int) ≤ 0 ∧ (0 : Int) ≤ 65535)
    pidLastError := (by decide : (-65535 : Int) ≤ 0 ∧ (0 : Int) ≤ 65535)
    pidDerivative := (by decide : (-131070 : Int) ≤ 0 ∧ (0 : Int) ≤ 131070)
    pidIntegralAndOutput :=
      (by decide : (0 : Int) ≤ 320 ∧ (320 : Int) ≤ 1000 ∧ (0 : Int) ≤ 0 ∧ (0 : Int) ≤ 1000)
    pidTarget := by
      have := h.wheelSpeedX10
      have := byte_le p
      simp only [Machine.cruiseInit, setPid_pid, paramValue]
      split_ifs <;> omega }

theorem cruiseError (h : WithinWidths P s) : WithinWidths P (cruiseError s) :=
  { h with
    pidError := by
      have := h.pidTarget
      have := h.wheelSpeedX10
      simp only [Machine.cruiseError, setPid_pid]
      omega }

theorem cruiseIntegral (h : WithinWidths P s) : WithinWidths P (cruiseIntegral s) := by
  obtain ⟨_, _, hout⟩ := h.pidIntegralAndOutput
  obtain ⟨hlo, hhi⟩ := clampInt_bounds (v := s.pid.integral + s.pid.error) (lo := 0) (hi := 1000) (by decide)
  exact { h with pidIntegralAndOutput := ⟨hlo, hhi, hout⟩ }

theorem cruiseDerivative (h : WithinWidths P s) : WithinWidths P (cruiseDerivative s) :=
  { h with
    pidLastError := h.pidError
    pidDerivative := by
      have := h.pidError
      have := h.pidLastError
      simp only [Machine.cruiseDerivative, setPid_pid]
      omega }

theorem cruiseOutput (h : WithinWidths P s) : WithinWidths P (cruiseOutput P s) := by
  obtain ⟨hlo, hhi, _⟩ := h.pidIntegralAndOutput
  exact { h with pidIntegralAndOutput := ⟨hlo, hhi, clampInt_bounds (by decide)⟩ }

theorem cruiseDuty (hP : P.Legal) (h : WithinWidths P s) : WithinWidths P (cruiseDuty P s) := by
  obtain ⟨hcur, _, hup, hdown⟩ := h.assist
  exact h.setA ⟨hcur, lerp_le (Nat.zero_le _) ((Nat.sub_le _ _).trans hP.dutyMax.2), hup, hdown⟩

theorem cruiseDrive (hP : P.Legal) (h : WithinWidths P s) : WithinWidths P (cruiseDrive P s) := by
  obtain ⟨_, hduty, _, _⟩ := h.assist
  exact h.setA ⟨h.iMax, hduty, hP.cruiseRampUp.2, hP.rampDownDefault.2⟩

theorem cruiseUpdate (hP : P.Legal) (h : WithinWidths P s) : WithinWidths P (cruiseUpdate P s) :=
  (h.cruiseError.cruiseIntegral.cruiseDerivative.cruiseOutput.cruiseDuty hP).cruiseDrive hP

theorem lawCruise (hP : P.Legal) (p : Byte) (h : WithinWidths P s) : WithinWidths P (lawCruise P p s) := by
  unfold Machine.lawCruise
  split_ifs
  · exact (h.cruiseInit p).cruiseUpdate hP
  · exact h.cruiseUpdate hP
  · exact h

theorem lawDispatch (hP : P.Legal) (m : Mode) (p : Byte) (h : WithinWidths P s) :
    WithinWidths P (lawDispatch P m p s) := by
  have shaped : ∀ i cad, WithinWidths P (Machine.rampShape P cad (Machine.setCurrent P i s)) := fun i cad =>
    (h.setCurrent hP i).rampShape hP cad
  cases m
  case off => exact h
  case power => exact shaped _ _
  case cadence => simp only [Machine.lawDispatch, lawCadence]; split_ifs <;> [exact shaped _ _; exact h]
  case torque => simp only [Machine.lawDispatch, lawTorque]; split_ifs <;> [exact shaped _ _; exact h]
  case emtb => simp only [Machine.lawDispatch, lawEmtb]; split_ifs <;> [exact shaped _ _; exact h]
  case walk =>
    simp only [Machine.lawDispatch, lawWalk]
    split_ifs
    · exact h.setA ⟨(Nat.min_le_right _ _).trans h.iMax, (Nat.min_le_left _ _).trans (byte_le p), hP.walkRampUp.2,
        hP.rampDownDefault.2⟩
    · exact h
  case cruise => exact h.lawCruise hP p
  case calib =>
    exact h.setA ⟨h.iMax, (Nat.min_le_left _ _).trans (byte_le p), hP.calRampUp.2, hP.calRampDown.2⟩

theorem lawPrologue (hP : P.Legal) (h : WithinWidths P s) : WithinWidths P (lawPrologue P s) := by
  have hceiling : currentCeiling P s ≤ 255 :=
    (Nat.min_le_left _ _).trans ((Nat.min_le_left _ _).trans (byte_le _))
  have hdefault : TupleFits (defaultTuple P) :=
    ⟨Nat.zero_le _, Nat.zero_le _, hP.rampUpDefault.2, hP.rampDownDefault.2⟩
  unfold Machine.lawPrologue
  dsimp only
  split_ifs <;> exact { h with iMax := hceiling, assist := hdefault }

theorem law (hP : P.Legal) (h : WithinWidths P s) : WithinWidths P (law P s) :=
  ((h.lawPrologue hP).lawDispatch hP _ _).setStage 4

/-! ### OVERLAY and SPEEDLIM -/

theorem overlayThrottle (hP : P.Legal) (h : WithinWidths P s) : WithinWidths P (overlayThrottle P s) := by
  unfold Machine.overlayThrottle
  split_ifs
  · exact h.setA ⟨lerp_le (Nat.zero_le _) h.iMax, hP.dutyMax.2, lerp_le hP.thrRampUpDefault.2 hP.thrRampUpMin.2,
      lerp_le hP.thrRampDownDefault.2 hP.thrRampDownMin.2⟩
  · exact h

theorem filterTemp (hP : P.Legal) (h : WithinWidths P s) : WithinWidths P (filterTemp P s) :=
  have hacc := iir_le (k := Config.TEMP_K) (adc_le s.inp.adcAux) h.tempAcc
  { h with
    tempAcc := hacc
    tempX10 := (Nat.div_le_self _ _).trans (Nat.mul_le_mul (shiftRight_le hacc) hP.tempNum.2) }

theorem derateTemp (h : WithinWidths P s) : WithinWidths P (derateTemp s) := by
  obtain ⟨hcur, hrest⟩ := h.assist
  refine h.setA ⟨?_, hrest⟩
  split_ifs
  · exact Nat.zero_le _
  · exact lerp_le hcur (Nat.zero_le _)

theorem overlay (hP : P.Legal) (h : WithinWidths P s) : WithinWidths P (overlay P s) := by
  have dispatched : WithinWidths P (overlayDispatch P (ovlOf (ovlBits s.csr.optFunction)) s) := by
    cases ovlOf (ovlBits s.csr.optFunction)
    case none => exact h
    case throttle => exact h.overlayThrottle hP
    case temp => exact (h.filterTemp hP).derateTemp
  exact dispatched.setStage 5

theorem limitSpeed (h : WithinWidths P s) : WithinWidths P (limitSpeed s) := by
  obtain ⟨hcur, hrest⟩ := h.assist
  unfold Machine.limitSpeed
  split_ifs
  · exact h.setA ⟨lerp_le hcur (Nat.zero_le _), hrest⟩
  · exact h

theorem speedlim (h : WithinWidths P s) : WithinWidths P (speedlim s) := h.limitSpeed.setStage 6

/-! ### ARBITER -/

theorem enableFsm (hP : P.Legal) (h : WithinWidths P s) : WithinWidths P (enableFsm P s) := by
  obtain ⟨hcur, hduty, _, _⟩ := h.assist
  unfold Machine.enableFsm
  split_ifs
  · exact { h with }
  · exact h
  · exact { h with
      assist := ⟨hcur, hduty, hP.rampUpMin.2, hP.rampDownMin.2⟩
      dutySeed := hP.dutyStartup.trans hP.dutyMax.2 }
  · exact h

theorem safeTuple_fits (hP : P.Legal) : TupleFits (safeTuple P) :=
  ⟨Nat.zero_le _, Nat.zero_le _, hP.rampUpDefault.2, hP.rampDownMin.2⟩

theorem inhibitOrCommit (hP : P.Legal) (h : WithinWidths P s) : WithinWidths P (inhibitOrCommit P s) := by
  obtain ⟨_, _, hup, hdown⟩ := h.assist
  unfold Machine.inhibitOrCommit
  split_ifs
  · exact h.setDrv (safeTuple_fits hP)
  · exact h.setDrv ⟨(Nat.min_le_right _ _).trans ((Nat.min_le_right _ _).trans hP.adcIAbsMax),
      (Nat.min_le_right _ _).trans hP.dutyMax.2, Nat.max_le.mpr ⟨hup, hP.rampUpMin.2⟩,
      Nat.max_le.mpr ⟨hdown, hP.rampDownMin.2⟩⟩

theorem arbiter (hP : P.Legal) (h : WithinWidths P s) : WithinWidths P (arbiter P s) :=
  have cleared : WithinWidths P (clearArbiterStrobes s) := { h with }
  ((cleared.enableFsm hP).inhibitOrCommit hP).setStage 7

/-! ### COMM -/

theorem receive (h : WithinWidths P s) : WithinWidths P (receive P s).1 := by
  rw [receive_eq]
  exact { h with }

theorem send (h : WithinWidths P s) : WithinWidths P (send P s) := by
  rcases send_cases P s with ⟨_, e⟩ | ⟨_, r, e, _⟩ <;> rw [e]
  · exact h
  · exact { h with txCount := Nat.le_refl 29 }

theorem exchange (h : WithinWidths P s) : WithinWidths P (exchange P s).1 := by
  unfold Machine.exchange
  split_ifs
  · exact h.receive.send
  · exact h

theorem detectLoss (b : Bool) (h : WithinWidths P s) : WithinWidths P (detectLoss P b s) := by
  rcases detectLoss_cases P b s with ⟨_, e⟩ | ⟨_, hlt, e⟩ | ⟨_, _, e⟩ <;> rw [e]
  · exact { h with commLossCount := Nat.zero_le _ }
  · exact { h with commLossCount := hlt.le }
  · exact { h with commLossCount := le_rfl }

theorem comm (h : WithinWidths P s) : WithinWidths P (comm P s) :=
  have quiet : WithinWidths P (s.setOut { s.out with hallCfgValid := false }) := { h with }
  { quiet.exchange.detectLoss _ with }

/-! ### Between ticks -/

theorem resetWith (hP : P.Legal) : WithinWidths P (State.resetWith P) := by
  have hoff : P.toffInit ≤ 1023 := hP.toffInit
  constructor
  case cadenceTicksMin => exact hP.ctmTicksLo
  case assist => exact ⟨Nat.zero_le _, Nat.zero_le _, hP.rampUpDefault.2, hP.rampDownDefault.2⟩
  case drive => exact safeTuple_fits hP
  case toffAcc => exact Nat.mul_le_mul_right _ hoff
  case torqueOffset => exact hoff.trans (by decide)
  case offsetUncorrected => exact fun _ => hoff
  all_goals simp [State.resetWith, PidBounded]

theorem agentStep (hP : P.Legal) (e : Event) (h : WithinWidths P s) : WithinWidths P (agentStep P e s) := by
  rcases agentStep_exists P e s with hr | ⟨m, b, x, n, hn, ha⟩
  · rw [hr]
    exact { resetWith hP with }
  · rw [ha]
    exact { h with txCount := hn.trans h.txCount }

theorem idle (h : WithinWidths P s) : WithinWidths P (idle s) := by
  rcases idle_exists s with ⟨inp, es, e⟩ | e <;> rw [e]
  · exact { h with }
  · exact h

end WithinWidths

/-- Settles O59: each rule of the stage the step runs keeps every width, and so does an agent between ticks. -/
theorem widthsAreKept : Obligations.WidthsAreKept := by
  intro s t h hstep
  have hP := Config.P_legal
  rcases step_stage_cases hstep with ⟨e, _, rfl⟩ | ⟨_, _, rfl⟩ | ⟨_, rfl⟩ | ⟨_, rfl⟩ | ⟨_, rfl⟩ | ⟨_, rfl⟩ | ⟨_, rfl⟩ |
    ⟨_, rfl⟩ | ⟨_, rfl⟩
  case inl => exact h.agentStep hP e
  · exact h.idle
  · exact h.sense hP
  · exact h.health
  · exact h.law hP
  · exact h.overlay hP
  · exact h.speedlim
  · exact h.arbiter hP
  · exact h.comm

end Sys2Proof.Safety
end

section
/-! SUPPORT. The limits of what is requested and committed (spec/10_state.md R48) and the inhibition
(spec/45_arbiter_enable_fsm.md R290). A stage outside ARBITER keeps the committed tuple; the request is kept below
the ceiling by every law, overlay and the speed limiter. -/

namespace Sys2Proof.Safety
open Sys2Proof.Machine

variable {P : Params} {s t : State}

/-! ### The request stays below the ceiling -/

theorem rampShape_setCurrent_request (i cad : Nat) :
    (rampShape P cad (setCurrent P i s)).a.iTarget ≤ (rampShape P cad (setCurrent P i s)).iMax := Nat.min_le_right _ _

/-- A law that acts requests at most the ceiling; one that does not leaves the request. -/
theorem lawDispatch_request (m : Mode) (p : Byte) (h : s.a.iTarget ≤ s.iMax) :
    (lawDispatch P m p s).a.iTarget ≤ (lawDispatch P m p s).iMax := by
  cases m
  case off => exact h
  case power => exact rampShape_setCurrent_request _ _
  case cadence =>
    simp only [lawDispatch, lawCadence]; split_ifs <;> [exact rampShape_setCurrent_request _ _; exact h]
  case torque =>
    simp only [lawDispatch, lawTorque]; split_ifs <;> [exact rampShape_setCurrent_request _ _; exact h]
  case emtb =>
    simp only [lawDispatch, lawEmtb]; split_ifs <;> [exact rampShape_setCurrent_request _ _; exact h]
  case walk => simp only [lawDispatch, lawWalk]; split_ifs <;> [exact Nat.min_le_right _ _; exact h]
  case cruise => simp only [lawDispatch, lawCruise]; split_ifs <;> [exact le_rfl; exact le_rfl; exact h]
  case calib => exact le_rfl

theorem law_request (P : Params) (s : State) : (law P s).a.iTarget ≤ (law P s).iMax := by
  refine lawDispatch_request (P := P) (modeOf s.csr.mode) s.csr.param (s := lawPrologue P s) ?_
  unfold lawPrologue
  dsimp only
  split_ifs <;> exact Nat.zero_le _

theorem overlay_request (h : s.a.iTarget ≤ s.iMax) : (overlay P s).a.iTarget ≤ (overlay P s).iMax := by
  unfold overlay
  cases ovlOf (ovlBits s.csr.optFunction)
  case none => exact h
  case throttle =>
    simp only [overlayDispatch, overlayThrottle]
    split_ifs
    · exact lerp_le (Nat.zero_le _) le_rfl
    · exact h
  case temp =>
    simp only [overlayDispatch, overlayTemp, derateTemp]
    split_ifs
    · exact Nat.zero_le _
    · exact lerp_le h (Nat.zero_le _)

theorem speedlim_request (h : s.a.iTarget ≤ s.iMax) : (speedlim s).a.iTarget ≤ (speedlim s).iMax := by
  unfold speedlim limitSpeed
  split_ifs
  · exact lerp_le h (Nat.zero_le _)
  · exact h

/-! ### What the stages around a commit keep -/

theorem sense_keeps_commit (P : Params) (s : State) :
    (sense P s).stage = 2 ∧ (sense P s).iMax = s.iMax ∧ (sense P s).drv = s.drv := by
  obtain ⟨x, f, n, b, e⟩ := sense_exists P s
  simp [e]

theorem health_keeps_commit (s : State) :
    (health s).stage = 3 ∧ (health s).iMax = s.iMax ∧ (health s).drv = s.drv := by
  obtain ⟨b, c, m, n, x, e⟩ := health_exists s
  simp [e]

theorem comm_keeps_commit (P : Params) (s : State) :
    (comm P s).stage = 0 ∧ (comm P s).iMax = s.iMax ∧ (comm P s).drv = s.drv := by
  obtain ⟨c, b, n, r, x, d, v, i, p, e⟩ := comm_exists P s
  simp [e]

theorem law_sets_ceiling (P : Params) (s : State) :
    (law P s).stage = 4 ∧ (law P s).iMax = currentCeiling P s ∧ (law P s).drv = s.drv ∧ (law P s).csr = s.csr ∧
      (law P s).sensor = s.sensor := by
  obtain ⟨a, p, b, e⟩ := law_exists P s
  simp [e]

theorem overlay_keeps_ceiling (P : Params) (s : State) :
    (overlay P s).iMax = s.iMax ∧ (overlay P s).drv = s.drv ∧ (overlay P s).csr = s.csr ∧
      (overlay P s).sensor = s.sensor := by
  obtain ⟨a, m, n, e⟩ := overlay_exists P s
  simp [e]

theorem speedlim_keeps_ceiling (s : State) :
    (speedlim s).iMax = s.iMax ∧ (speedlim s).drv = s.drv ∧ (speedlim s).csr = s.csr ∧
      (speedlim s).sensor = s.sensor := by
  obtain ⟨i, e⟩ := speedlim_exists s
  simp [e]

/-! ### The limits, by the stage -/

theorem DriveLimits.of_drv (h : DriveLimits P s) (hd : t.drv = s.drv) : DriveLimits P t := by
  unfold DriveLimits
  rw [hd]
  exact h

/-- At the stages before LAW, keeping the ceiling and the committed tuple is enough. -/
theorem CurrentBounded.of_kept (h : CurrentBounded P s) (hs : CommitIsCurrent s) (ht : t.stage.toNat ≤ 3)
    (hi : t.iMax = s.iMax) (hd : t.drv = s.drv) : CurrentBounded P t where
  request hl := absurd hl (Nat.not_le.mpr (Nat.lt_succ_of_le ht))
  ceiling hl := absurd hl (Nat.not_le.mpr (Nat.lt_succ_of_le ht))
  absolute := by rw [hi, hd]; exact h.absolute
  committed _ := by rw [hi, hd]; exact h.committed hs

/-- Between LAW and ARBITER, keeping the request below the ceiling is enough where the ceiling, what it was derived
from and the committed tuple stay. -/
theorem CurrentBounded.of_request (h : CurrentBounded P s) (hs : LawHasRun s) (ht : ¬ CommitIsCurrent t)
    (hi : t.iMax = s.iMax) (hd : t.drv = s.drv) (hcsr : t.csr = s.csr) (hsensor : t.sensor = s.sensor)
    (hreq : t.a.iTarget ≤ t.iMax) : CurrentBounded P t where
  request _ := hreq
  ceiling _ := by
    rw [hi, hcsr, p2i_congr (t := s) (by rw [hsensor])]
    exact h.ceiling hs
  absolute := by rw [hi, hd]; exact h.absolute
  committed hc := absurd hc ht

theorem resetWith_driveLimits (hP : P.Legal) : DriveLimits P (State.resetWith P) :=
  ⟨Nat.zero_le _, hP.rampUpDefault.1, le_rfl⟩

theorem resetWith_currentBounded (P : Params) : CurrentBounded P (State.resetWith P) where
  request _ := le_rfl
  ceiling _ := ⟨le_rfl, Nat.zero_le _⟩
  absolute := ⟨Nat.zero_le _, Nat.zero_le _⟩
  committed _ := le_rfl

theorem law_currentBounded (h : CurrentBounded P s) : CurrentBounded P (law P s) := by
  obtain ⟨hstage, hmax, hdrv, hcsr, hsensor⟩ := law_sets_ceiling P s
  have habs : min s.csr.iMaxAdc.toNat P.adcIAbsMax ≤ P.adcIAbsMax := Nat.min_le_right _ _
  exact
    { request := fun _ => law_request P s
      ceiling := fun _ => by
        rw [hmax, hcsr, p2i_congr (t := s) (by rw [hsensor])]
        exact ⟨(Nat.min_le_left _ _).trans (Nat.min_le_left _ _), Nat.min_le_right _ _⟩
      absolute := by
        rw [hmax, hdrv]
        exact ⟨(Nat.min_le_left _ _).trans habs, h.absolute.2⟩
      committed := fun hc => by
        rw [CommitIsCurrent, hstage] at hc
        exact absurd hc (by decide) }

/-! ### What ARBITER commits -/

theorem arbiter_request_and_ceiling (P : Params) (s : State) :
    (arbiter P s).a.iTarget = s.a.iTarget ∧ (arbiter P s).iMax = s.iMax ∧ (arbiter P s).csr = s.csr ∧
      (arbiter P s).sensor = s.sensor := by
  obtain ⟨b, m, n, d, o, e⟩ := arbiter_exists P s
  simp [e]

/-- The enable state machine keeps what the clamps read, the ramps aside. -/
theorem enableFsm_ceiling (P : Params) (s : State) : (enableFsm P s).iMax = s.iMax := by
  rw [enableFsm_eq]; rfl

/-- The committed tuple is the safe one or the clamped one; both are within the limits (R286 to R289). -/
theorem inhibitOrCommit_drv_le (P : Params) (s : State) :
    (inhibitOrCommit P s).drv.iTarget ≤ s.iMax ∧ (inhibitOrCommit P s).drv.iTarget ≤ P.adcIAbsMax := by
  unfold inhibitOrCommit
  split_ifs
  · exact ⟨Nat.zero_le _, Nat.zero_le _⟩
  · exact ⟨(Nat.min_le_right _ _).trans (Nat.min_le_left _ _), (Nat.min_le_right _ _).trans (Nat.min_le_right _ _)⟩

theorem inhibitOrCommit_driveLimits (hP : P.Legal) (s : State) : DriveLimits P (inhibitOrCommit P s) := by
  unfold inhibitOrCommit
  split_ifs
  · exact ⟨Nat.zero_le _, hP.rampUpDefault.1, le_rfl⟩
  · exact ⟨Nat.min_le_right _ _, Nat.le_max_right _ _, Nat.le_max_right _ _⟩

theorem arbiter_driveLimits (hP : P.Legal) (s : State) : DriveLimits P (arbiter P s) :=
  (inhibitOrCommit_driveLimits hP (enableFsm P (clearArbiterStrobes s))).of_drv rfl

theorem arbiter_currentBounded (h : CurrentBounded P s) (hs : LawHasRun s) : CurrentBounded P (arbiter P s) := by
  obtain ⟨hreq, hmax, hcsr, hsensor⟩ := arbiter_request_and_ceiling P s
  have hdrv := inhibitOrCommit_drv_le P (enableFsm P (clearArbiterStrobes s))
  rw [enableFsm_ceiling] at hdrv
  exact
    { request := fun _ => by rw [hreq, hmax]; exact h.request hs
      ceiling := fun _ => by
        rw [hmax, hcsr, p2i_congr (t := s) (by rw [hsensor])]
        exact h.ceiling hs
      absolute := by rw [hmax]; exact ⟨h.absolute.1, hdrv.2⟩
      committed := fun _ => by rw [hmax]; exact hdrv.1 }

theorem agentStep_limits (hP : P.Legal) (e : Event) (hd : DriveLimits P s)
    (hc : CurrentBounded P s) : DriveLimits P (agentStep P e s) ∧ CurrentBounded P (agentStep P e s) := by
  rcases agentStep_exists P e s with hr | ⟨m, b, x, n, _, ha⟩
  · rw [hr]
    exact ⟨resetWith_driveLimits hP, { resetWith_currentBounded P with }⟩
  · rw [ha]
    exact ⟨hd.of_drv rfl, { hc with }⟩

/-- Settles O56, stage by stage: LAW sets the ceiling and a request below it, the stages after it keep the request
below, ARBITER commits below both, and the other stages keep the ceiling and the commit. -/
theorem limitsAreKept : Obligations.LimitsAreKept := by
  intro s t hd hc hstep
  have hP := Config.P_legal
  rcases step_stage_cases hstep with ⟨e, _, rfl⟩ | ⟨hs, _, rfl⟩ | ⟨hs, rfl⟩ | ⟨hs, rfl⟩ | ⟨hs, rfl⟩ | ⟨hs, rfl⟩ |
    ⟨hs, rfl⟩ | ⟨hs, rfl⟩ | ⟨hs, rfl⟩
  case inl => exact agentStep_limits hP e hd hc
  · rcases idle_exists s with ⟨inp, es, e⟩ | e <;> rw [e]
    · exact ⟨hd.of_drv rfl, hc.of_kept (by simp [CommitIsCurrent, hs]) (Nat.le_of_ble_eq_true rfl) rfl rfl⟩
    · exact ⟨hd, hc⟩
  · obtain ⟨ht, hi, hdrv⟩ := sense_keeps_commit Config.P s
    exact ⟨hd.of_drv hdrv, hc.of_kept (by simp [CommitIsCurrent, hs]) (by simp [ht]) hi hdrv⟩
  · obtain ⟨ht, hi, hdrv⟩ := health_keeps_commit s
    exact ⟨hd.of_drv hdrv, hc.of_kept (by simp [CommitIsCurrent, hs]) (by simp [ht]) hi hdrv⟩
  · obtain ⟨_, _, hdrv, _⟩ := law_sets_ceiling Config.P s
    exact ⟨hd.of_drv hdrv, law_currentBounded hc⟩
  · have hl : LawHasRun s := by simp [LawHasRun, hs]
    obtain ⟨hi, hdrv, hcsr, hsensor⟩ := overlay_keeps_ceiling Config.P s
    exact ⟨hd.of_drv hdrv, hc.of_request hl (by simp [CommitIsCurrent, overlay]) hi hdrv hcsr hsensor
      (overlay_request (hc.request hl))⟩
  · have hl : LawHasRun s := by simp [LawHasRun, hs]
    obtain ⟨hi, hdrv, hcsr, hsensor⟩ := speedlim_keeps_ceiling s
    exact ⟨hd.of_drv hdrv, hc.of_request hl (by simp [CommitIsCurrent, speedlim]) hi hdrv hcsr hsensor
      (speedlim_request (hc.request hl))⟩
  · exact ⟨arbiter_driveLimits hP s, arbiter_currentBounded hc (by simp [LawHasRun, hs])⟩
  · obtain ⟨ht, hi, hdrv⟩ := comm_keeps_commit Config.P s
    exact ⟨hd.of_drv hdrv, hc.of_kept (by simp [CommitIsCurrent, hs]) (by simp [ht]) hi hdrv⟩

/-! ### The inhibition -/

/-- `inhibit` is the disjunction of its causes (R286). -/
theorem inhibit_iff (s : State) : inhibit s = true ↔
    s.inp.brake = true ∨ s.csr.fault ≠ 0 ∨ s.inp.adminDisable = true ∨ s.flags.motorEnabled = false := by
  simp [inhibit, or_assoc]

/-- A step that keeps the causes and the committed tuple, from a stage at which the inhibition speaks. -/
theorem InhibitedIsSafe.of_kept (h : InhibitedIsSafe P s) (hs : s.stage = 7 ∨ s.stage = 0) (hinp : t.inp = s.inp)
    (hfault : t.csr.fault = s.csr.fault) (hen : t.flags.motorEnabled = s.flags.motorEnabled)
    (hdrv : t.drv = s.drv) : InhibitedIsSafe P t := by
  intro _ hcause
  rw [hinp, hfault, hen] at hcause
  rw [hdrv]
  exact h hs hcause

/-- From SENSE until ARBITER has run nothing is claimed. -/
theorem InhibitedIsSafe.of_stage (h7 : t.stage ≠ 7) (h0 : t.stage ≠ 0) : InhibitedIsSafe P t := by
  rintro (h | h)
  · exact absurd h h7
  · exact absurd h h0

/-- ARBITER's last test is on the very causes the next states show: the commit writes none of them. -/
theorem arbiter_inhibitedIsSafe (P : Params) (s : State) : InhibitedIsSafe P (arbiter P s) := by
  intro _ hcause
  unfold arbiter inhibitOrCommit at hcause ⊢
  split_ifs at hcause ⊢ with hi
  · rfl
  · exact absurd ((inhibit_iff _).mpr hcause) hi

theorem agentStep_inhibitedIsSafe (e : Event) (h0 : s.stage = 0) (h : InhibitedIsSafe P s) :
    InhibitedIsSafe P (agentStep P e s) := by
  rcases agentStep_exists P e s with hr | ⟨m, b, x, n, _, ha⟩
  · rw [hr]
    exact fun _ _ => rfl
  · rw [ha]
    exact h.of_kept (.inr h0) rfl rfl rfl rfl

theorem comm_inhibitedIsSafe (h7 : s.stage = 7) (h : InhibitedIsSafe P s) : InhibitedIsSafe P (comm P s) := by
  obtain ⟨c, b, n, r, x, d, v, i, p, e⟩ := comm_exists P s
  rw [e]
  exact h.of_kept (.inl h7) (by simp) (by simp) (by simp) (by simp)

/-- Settles O57: ARBITER establishes the inhibition, COMM and the agents keep its causes and its tuple, and the other
stages end where nothing is claimed. -/
theorem inhibitionIsKept : Obligations.InhibitionIsKept := by
  intro s t h hstep
  rcases step_stage_cases hstep with ⟨e, he, rfl⟩ | ⟨_, _, rfl⟩ | ⟨_, rfl⟩ | ⟨_, rfl⟩ | ⟨_, rfl⟩ | ⟨_, rfl⟩ | ⟨_, rfl⟩ |
    ⟨_, rfl⟩ | ⟨hs, rfl⟩
  case inl => exact agentStep_inhibitedIsSafe e (dueAgent_some.mp he).1 h
  · rcases idle_exists s with ⟨inp, es, e⟩ | e <;> rw [e]
    · exact .of_stage (by simp) (by simp)
    · exact h
  · exact .of_stage (by simp [sense]) (by simp [sense])
  · exact .of_stage (by simp [health]) (by simp [health])
  · exact .of_stage (by simp [law]) (by simp [law])
  · exact .of_stage (by simp [overlay]) (by simp [overlay])
  · exact .of_stage (by simp [speedlim]) (by simp [speedlim])
  · exact arbiter_inhibitedIsSafe Config.P s
  · exact comm_inhibitedIsSafe hs h

end Sys2Proof.Safety
end

section
/-! SUPPORT. The reset state and the STATUS view. -/

namespace Sys2Proof.Safety
open Sys2Proof.Machine

/-- Settles O55: the reset values are 0 or legal parameters, and what is committed at reset is the safe tuple. -/
theorem resetMeetsInvariant : Obligations.ResetMeetsInvariant where
  memory := rfl
  pid := ⟨le_rfl, by decide, le_rfl, by decide⟩
  drive := resetWith_driveLimits Config.P_legal
  current := resetWith_currentBounded Config.P
  inhibited _ _ := rfl
  faultCode := rfl
  widths := WithinWidths.resetWith Config.P_legal

/-- The bits of eight flags written side by side, bit 0 last. -/
theorem getLsbD_flagByte (b7 b6 b5 b4 b3 b2 b1 b0 : Bool) (n : Nat) :
    (BitVec.ofBool b7 ++ BitVec.ofBool b6 ++ BitVec.ofBool b5 ++ BitVec.ofBool b4 ++ BitVec.ofBool b3 ++
      BitVec.ofBool b2 ++ BitVec.ofBool b1 ++ BitVec.ofBool b0 : Byte).getLsbD n =
      ([b0, b1, b2, b3, b4, b5, b6, b7][n]?.getD false) := by
  simp only [BitVec.getLsbD_append]
  rcases n with _ | _ | _ | _ | _ | _ | _ | _ | n <;> simp

/-- Settles O18: c4 reads as the status byte, whose bits are the flags. -/
theorem statusView : Obligations.StatusView := by
  intro s
  refine ⟨statusWord Config.P s, rfl, ?_⟩
  simp only [statusWord, getLsbD_flagByte]
  simp

end Sys2Proof.Safety
end

section
/-! SUPPORT. Which state each operation writes (spec/10_state.md R28, R41; spec/20_memory.md R60). -/

namespace Sys2Proof.Safety
open Sys2Proof.Machine

/-- The clauses of `Obligations.OneWriterEach` for one operation and the states before and after it, one field per
piece of state. -/
structure WritesOnlyItsOwn (i : Instr) (s t : State) : Prop where
  sensing : i ≠ .sense → t.sensor = s.sensor ∧ t.cnt.calTicks = s.cnt.calTicks ∧ t.flags.calDone = s.flags.calDone ∧
    t.filt.vbatAcc = s.filt.vbatAcc ∧ t.filt.toffAcc = s.filt.toffAcc ∧
    t.filt.torqueOffset = s.filt.torqueOffset ∧ t.filt.coasterThr = s.filt.coasterThr
  faults : i ≠ .health → t.flags.mbFault = s.flags.mbFault ∧ t.flags.tsFault = s.flags.tsFault ∧
    t.csr.fault = s.csr.fault ∧ t.cnt.mbCount = s.cnt.mbCount ∧ t.cnt.mbResetCount = s.cnt.mbResetCount
  drive : i ≠ .arbiter → t.drv = s.drv ∧ t.flags.motorEnabled = s.flags.motorEnabled ∧ t.out.dutySeed = s.out.dutySeed
  ceiling : i ≠ .law → t.iMax = s.iMax
  cruise : i ≠ .law → (∀ p, i ≠ .cruise p) →
    t.pid = s.pid ∧ t.flags.cruiseInitPending = s.flags.cruiseInitPending
  temperature : i ≠ .overlay → i ≠ .ovlTemp → t.filt.tempAcc = s.filt.tempAcc ∧ t.filt.tempX10 = s.filt.tempX10
  assist : i ≠ .law → i ≠ .overlay → i ≠ .speedlim → i ≠ .arbiter → (∀ m p, i ≠ cmdInstr m p) →
    (∀ o, i ≠ ovlInstr o) → t.a = s.a
  host : i ≠ .comm → (∀ k a, i ≠ frameInstr k a) → t.csr = { s.csr with fault := t.csr.fault } ∧
    t.out.hallCfgId = s.out.hallCfgId ∧ t.out.hallCfgData = s.out.hallCfgData ∧
    (i ≠ .idle → t.out.hallCfgValid = s.out.hallCfgValid)
  transport : i ≠ .comm → t.txRec = s.txRec ∧ t.txCount = s.txCount ∧ t.flags.frameReady = s.flags.frameReady ∧
    t.cnt.commLossCount = s.cnt.commLossCount ∧ t.tickMod4 = s.tickMod4 ∧ t.draws = s.draws
  sample : i ≠ .idle → t.inp = s.inp ∧ t.env = s.env
  strobes : i ≠ .idle → i ≠ .arbiter → t.out.pwmEnable = s.out.pwmEnable ∧ t.out.pwmDisable = s.out.pwmDisable ∧
    t.out.dutySeedValid = s.out.dutySeedValid ∧ t.out.fwOffsetReset = s.out.fwOffsetReset
  stage : (∀ b, i ≠ stageInstr b) → t.stage = s.stage
  sent : t.txSent = s.txSent
  buffer : t.rxBuf = s.rxBuf

/-! ### The stage operations -/

theorem idle_writes (s : State) : WritesOnlyItsOwn .idle s (idle s) := by
  rcases idle_exists s with ⟨inp, es, e⟩ | e <;> rw [e] <;> constructor
  case inl.stage => exact fun h => absurd rfl (h 0)
  all_goals simp [clearStrobes]

theorem sense_writes (P : Params) (s : State) : WritesOnlyItsOwn .sense s (sense P s) := by
  obtain ⟨x, f, n, b, e⟩ := sense_exists P s
  rw [e]
  constructor
  case stage => exact fun h => absurd rfl (h 1)
  all_goals simp

theorem health_writes (s : State) : WritesOnlyItsOwn .health s (health s) := by
  obtain ⟨b, c, m, n, x, e⟩ := health_exists s
  rw [e]
  constructor
  case stage => exact fun h => absurd rfl (h 2)
  all_goals simp

theorem law_writes (P : Params) (s : State) : WritesOnlyItsOwn .law s (law P s) := by
  obtain ⟨a, p, b, e⟩ := law_exists P s
  rw [e]
  constructor
  case stage => exact fun h => absurd rfl (h 3)
  all_goals simp

theorem overlay_writes (P : Params) (s : State) : WritesOnlyItsOwn .overlay s (overlay P s) := by
  obtain ⟨a, m, n, e⟩ := overlay_exists P s
  rw [e]
  constructor
  case stage => exact fun h => absurd rfl (h 4)
  all_goals simp

theorem speedlim_writes (s : State) : WritesOnlyItsOwn .speedlim s (speedlim s) := by
  obtain ⟨i, e⟩ := speedlim_exists s
  rw [e]
  constructor
  case stage => exact fun h => absurd rfl (h 5)
  all_goals simp

theorem arbiter_writes (P : Params) (s : State) : WritesOnlyItsOwn .arbiter s (arbiter P s) := by
  obtain ⟨b, m, n, d, o, e⟩ := arbiter_exists P s
  rw [e]
  constructor
  case stage => exact fun h => absurd rfl (h 6)
  all_goals simp

theorem comm_writes (P : Params) (s : State) : WritesOnlyItsOwn .comm s (comm P s) := by
  obtain ⟨c, b, n, r, x, d, v, i, p, e⟩ := comm_exists P s
  rw [e]
  constructor
  case stage => exact fun h => absurd rfl (h 7)
  all_goals simp

/-! ### The operations a stage contains -/

/-- Every law but CRUISE writes AssistOutput only. -/
theorem lawDispatch_of_ne_cruise (P : Params) {m : Mode} (hm : m ≠ .cruise) (p : Byte) (s : State) :
    lawDispatch P m p s = s.setA (lawDispatch P m p s).a := by
  cases m
  case cruise => exact absurd rfl hm
  all_goals simp only [lawDispatch, lawOff, lawPower, lawCadence, lawTorque, lawEmtb, lawWalk, lawCalib]
  case cadence | torque | emtb | walk => split_ifs <;> rfl
  all_goals rfl

/-- Every overlay but the temperature's writes AssistOutput only. -/
theorem overlayDispatch_of_ne_temp (P : Params) {o : Overlay} (ho : o ≠ .temp) (s : State) :
    overlayDispatch P o s = s.setA (overlayDispatch P o s).a := by
  cases o
  case none => rfl
  case throttle => simp only [overlayDispatch, overlayThrottle]; split_ifs <;> rfl
  case temp => exact absurd rfl ho

theorem lawDispatch_writes (P : Params) (m : Mode) (p : Byte) (s : State) :
    WritesOnlyItsOwn (cmdInstr m p) s (lawDispatch P m p s) := by
  have cruise : (∀ q, cmdInstr m p ≠ .cruise q) → (lawDispatch P m p s).pid = s.pid ∧
      (lawDispatch P m p s).flags.cruiseInitPending = s.flags.cruiseInitPending := fun h => by
    rw [lawDispatch_of_ne_cruise P (fun hm => h p (by rw [hm]; rfl))]
    exact ⟨rfl, rfl⟩
  constructor
  case cruise => exact fun _ => cruise
  case assist => exact fun _ _ _ _ h => absurd rfl (h m p)
  all_goals rw [lawDispatch_eq]; simp

theorem overlayDispatch_writes (P : Params) (o : Overlay) (s : State) :
    WritesOnlyItsOwn (ovlInstr o) s (overlayDispatch P o s) := by
  have temperature : ovlInstr o ≠ .ovlTemp → (overlayDispatch P o s).filt.tempAcc = s.filt.tempAcc ∧
      (overlayDispatch P o s).filt.tempX10 = s.filt.tempX10 := fun h => by
    rw [overlayDispatch_of_ne_temp P (fun ho => h (by rw [ho]; rfl))]
    exact ⟨rfl, rfl⟩
  constructor
  case temperature => exact fun _ => temperature
  case assist => exact fun _ _ _ _ _ h => absurd rfl (h o)
  all_goals rw [overlayDispatch_eq]; simp

theorem applyFrame_writes (P : Params) (k : MsgId) (f : FrameArgs) (s : State) :
    WritesOnlyItsOwn (frameInstr k f) s (applyFrame P k f s) := by
  constructor
  case host => exact fun _ h => absurd rfl (h k f)
  all_goals rw [applyFrame_eq]; simp

theorem exec_writes {i : Instr} {s t : State} (h : exec i s = .next t) : WritesOnlyItsOwn i s t := by
  cases i <;> obtain rfl := Host.Outcome.next.inj h
  case idle => exact idle_writes s
  case sense => exact sense_writes Config.P s
  case health => exact health_writes s
  case law => exact law_writes Config.P s
  case overlay => exact overlay_writes Config.P s
  case speedlim => exact speedlim_writes s
  case arbiter => exact arbiter_writes Config.P s
  case comm => exact comm_writes Config.P s
  case off p => exact lawDispatch_writes Config.P .off p s
  case power p => exact lawDispatch_writes Config.P .power p s
  case cadence p => exact lawDispatch_writes Config.P .cadence p s
  case torque p => exact lawDispatch_writes Config.P .torque p s
  case emtb p => exact lawDispatch_writes Config.P .emtb p s
  case walk p => exact lawDispatch_writes Config.P .walk p s
  case cruise p => exact lawDispatch_writes Config.P .cruise p s
  case calib p => exact lawDispatch_writes Config.P .calib p s
  case ovlNone => exact overlayDispatch_writes Config.P .none s
  case ovlThrottle => exact overlayDispatch_writes Config.P .throttle s
  case ovlTemp => exact overlayDispatch_writes Config.P .temp s
  case frameLimits f => exact applyFrame_writes Config.P .limits f s
  case frameWheelAssist f => exact applyFrame_writes Config.P .wheelAssist f s
  case frameOptfn f => exact applyFrame_writes Config.P .optFn f s
  case frameHallAngles f => exact applyFrame_writes Config.P .hallAngles f s
  case frameHallOffsets f => exact applyFrame_writes Config.P .hallOffsets f s

/-- Settles O24: the clauses for each operation, read off what it can write. -/
theorem oneWriterEach : Obligations.OneWriterEach := by
  intro i s t h
  have w := exec_writes h
  exact ⟨w.sensing, w.faults, w.drive, w.ceiling, w.cruise, w.temperature, w.assist, w.host, w.transport, w.sample,
    w.strobes, w.stage, w.sent, fun k => congrArg (Memory.read k) w.buffer⟩

end Sys2Proof.Safety
end

section
/-! SUPPORT. What a step is within a tick and between ticks, and several in a row; the RX space after a frame. -/

namespace Sys2Proof.Machine

/-- Within a tick no agent is due, so the stage operation runs. -/
theorem step_of_stage_ne_zero {s : State} (h0 : s.stage ≠ 0) : step s = exec (fetch s) s := by
  have quiet : dueAgent s = none := if_neg h0
  rw [step, quiet]

/-- Between ticks the next event is an agent's unless it is a tick: it is taken off the list and has its effect. -/
theorem step_of_agentEvent {s : State} {e : Event} {es : List Event} (h0 : s.stage = 0) (henv : s.env = e :: es)
    (he : ∀ inp, e ≠ .tick inp) : step s = .next (agentEffect Config.P e (s.setEnv es)) := by
  have due : dueAgent s = some e := dueAgent_some.mpr ⟨h0, by rw [henv]; rfl, he⟩
  rw [step, due]
  simp only [agentStep, henv, List.tail_cons]

theorem run_succ_of_step {M : Host.Core} {s t : M.State} (h : M.step s = .next t) (k : Nat) :
    M.run (k + 1) s = M.run k t := by
  rw [Host.Core.run, h]

/-- A frame has 13 bytes, so what lies above them stays. -/
theorem rxByte_storeFrame_above {f : Vector Byte 13} {s : State} {k : Nat} (h : Memory.wf s.rxBuf = true)
    (hk : 13 ≤ k) : (storeFrame f s).rxByte k = s.rxByte k := by
  simp only [State.rxByte, storeFrame, setRxBuf_rxBuf]
  rw [read_writeBytes h (by simp), dif_neg (by simp; omega)]

end Sys2Proof.Machine
end

section
/-! SUPPORT. What the stages from SENSE to ARBITER make of the transport: nothing (spec/20_memory.md R73, R75). -/

namespace Sys2Proof.Safety
open Sys2Proof.Machine

/-- `s` with the transport of `u` in place of its own: every field that `SameButTransport` leaves free. -/
def withTransportOf (u s : State) : State :=
  { s with
    flags := { s.flags with frameReady := u.flags.frameReady }
    cnt := { s.cnt with commLossCount := u.cnt.commLossCount }
    tickMod4 := u.tickMod4, rxBuf := u.rxBuf, txRec := u.txRec, txCount := u.txCount, env := u.env, draws := u.draws
    txSent := u.txSent }

theorem sameButTransport_withTransportOf (u s : State) : SameButTransport s (withTransportOf u s) :=
  ⟨rfl, rfl, rfl, rfl, rfl, rfl, rfl, rfl, rfl, rfl, rfl, rfl⟩

/-- A state that differs from `s` in the transport alone is `s` with that state's transport. -/
theorem SameButTransport.eq_withTransportOf {s t : State} (h : SameButTransport s t) : t = withTransportOf t s := by
  obtain ⟨hstage, hsensor, ha, hdrv, hmax, hcsr, hpid, hfilt, hinp, hout, hflags, hcnt⟩ := h
  exact State.ext_fields hstage.symm rfl hsensor.symm ha.symm hdrv.symm hmax.symm hcsr.symm hflags.symm hpid.symm
    hfilt.symm hcnt.symm rfl rfl rfl hinp.symm hout.symm rfl rfl rfl

/-- The operation `f` neither reads nor writes the transport: exchanging it before `f` or after is the same. -/
def IgnoresTransport (f : State → State) : Prop :=
  ∀ u s : State, f (withTransportOf u s) = withTransportOf u (f s)

namespace IgnoresTransport

theorem comp {f g : State → State} (hg : IgnoresTransport g) (hf : IgnoresTransport f) :
    IgnoresTransport fun s => g (f s) := fun u s => (congrArg g (hf u s)).trans (hg u (f s))

/-- A branch on a condition that does not see the transport. A condition, and a rule without a branch, is shown blind
to the transport by computation. -/
theorem ite {c : State → Prop} [DecidablePred c] {f g : State → State} (hf : IgnoresTransport f)
    (hg : IgnoresTransport g) (hc : ∀ u s, c (withTransportOf u s) = c s := by exact fun _ _ => rfl) :
    IgnoresTransport fun s => if c s then f s else g s := by
  intro u s
  simp only [hc, hf u s, hg u s, apply_ite (withTransportOf u)]

theorem setStage (x : BitVec 3) : IgnoresTransport (·.setStage x) := fun _ _ => rfl

/-! ### SENSE and HEALTH -/

theorem calibrate (P : Params) : IgnoresTransport (calibrate P) :=
  .ite (fun _ _ => rfl) <| .ite (fun _ _ => rfl) <| .ite (fun _ _ => rfl) fun _ _ => rfl

theorem sense (P : Params) : IgnoresTransport (sense P) :=
  have measured : IgnoresTransport fun s =>
      senseErps (senseTicksMin P (senseCadence P (senseWheel P (senseIbat P (senseVbat P s))))) := fun _ _ => rfl
  have torque : IgnoresTransport fun s => (senseTorquePhys (senseTorque (countCalTick P s))).setStage 2 :=
    fun _ _ => rfl
  torque.comp ((calibrate P).comp measured)

/-- Latched and not latched, each with its count at the limit or below. -/
theorem detectMotorBlocked : IgnoresTransport detectMotorBlocked :=
  .ite (.ite (fun _ _ => rfl) fun _ _ => rfl) <| .ite (.ite (fun _ _ => rfl) fun _ _ => rfl) fun _ _ => rfl

theorem health : IgnoresTransport health :=
  have coded : IgnoresTransport fun s => (updateFaultCode (detectTorqueSensor s)).setStage 3 := fun _ _ => rfl
  coded.comp detectMotorBlocked

/-! ### LAW -/

theorem lawPrologue (P : Params) : IgnoresTransport (lawPrologue P) := .ite (fun _ _ => rfl) fun _ _ => rfl

theorem lawCruise (P : Params) (p : Byte) : IgnoresTransport (lawCruise P p) :=
  have update : IgnoresTransport (cruiseUpdate P) := fun _ _ => rfl
  have armed : IgnoresTransport fun s => if s.flags.cruiseInitPending then cruiseInit p s else s :=
    .ite (fun _ _ => rfl) fun _ _ => rfl
  .ite (update.comp armed) fun _ _ => rfl

theorem lawDispatch (P : Params) (m : Mode) (p : Byte) : IgnoresTransport (lawDispatch P m p) := by
  cases m
  case off | power | calib => exact fun _ _ => rfl
  case cadence | torque | emtb | walk => exact .ite (fun _ _ => rfl) fun _ _ => rfl
  case cruise => exact lawCruise P p

/-- The command word is not the transport's, so the law dispatched to is the same. -/
theorem law (P : Params) : IgnoresTransport (law P) := fun u s =>
  (setStage 4).comp ((lawDispatch P (modeOf s.csr.mode) s.csr.param).comp (lawPrologue P)) u s

/-! ### OVERLAY, SPEEDLIM and ARBITER -/

theorem overlayDispatch (P : Params) (o : Overlay) : IgnoresTransport (overlayDispatch P o) := by
  cases o
  case none | temp => exact fun _ _ => rfl
  case throttle => exact .ite (fun _ _ => rfl) fun _ _ => rfl

/-- The overlay code is not the transport's, so the overlay dispatched to is the same. -/
theorem overlay (P : Params) : IgnoresTransport (overlay P) := fun u s =>
  (setStage 5).comp (overlayDispatch P (ovlOf (ovlBits s.csr.optFunction))) u s

theorem limitSpeed : IgnoresTransport limitSpeed := .ite (fun _ _ => rfl) fun _ _ => rfl

theorem speedlim : IgnoresTransport speedlim := (setStage 6).comp limitSpeed

theorem enableFsm (P : Params) : IgnoresTransport (enableFsm P) :=
  .ite (.ite (fun _ _ => rfl) fun _ _ => rfl) <| .ite (fun _ _ => rfl) fun _ _ => rfl

theorem inhibitOrCommit (P : Params) : IgnoresTransport (inhibitOrCommit P) := .ite (fun _ _ => rfl) fun _ _ => rfl

theorem arbiter (P : Params) : IgnoresTransport (arbiter P) :=
  have cleared : IgnoresTransport clearArbiterStrobes := fun _ _ => rfl
  (setStage 7).comp ((inhibitOrCommit P).comp ((enableFsm P).comp cleared))

end IgnoresTransport

/-- From SENSE to ARBITER a step is the operation of its stage, which ignores the transport. -/
theorem step_ignoresTransport {s : State} (h0 : s.stage ≠ 0) (h7 : s.stage ≠ 7) :
    ∃ f, IgnoresTransport f ∧ ∀ u : State, u.stage = s.stage → step u = .next (f u) := by
  have runs {i : Instr} {f : State → State} (hi : fetch s = i) (hf : ∀ u, exec i u = .next (f u)) (u : State)
      (hu : u.stage = s.stage) : step u = .next (f u) := by
    rw [step_of_stage_ne_zero (hu ▸ h0), fetch, hu, ← hf, ← hi, fetch]
  rcases fetch_cases s with ⟨h, _⟩ | ⟨_, h⟩ | ⟨_, h⟩ | ⟨_, h⟩ | ⟨_, h⟩ | ⟨_, h⟩ | ⟨_, h⟩ | ⟨h, _⟩
  · exact absurd h h0
  · exact ⟨sense Config.P, .sense _, runs h exec_sense⟩
  · exact ⟨health, .health, runs h exec_health⟩
  · exact ⟨law Config.P, .law _, runs h exec_law⟩
  · exact ⟨overlay Config.P, .overlay _, runs h exec_overlay⟩
  · exact ⟨speedlim, .speedlim, runs h exec_speedlim⟩
  · exact ⟨arbiter Config.P, .arbiter _, runs h exec_arbiter⟩
  · exact absurd h h7

/-- Settles O52: the two machines run the same operation, and exchanging the transport before it is exchanging it
after. -/
theorem pendingFrameIsInvisible : Obligations.PendingFrameIsInvisible := by
  intro s t s' t' hst h0 h7 hs ht
  obtain ⟨f, hf, hstep⟩ := step_ignoresTransport h0 h7
  have hs' : f s = s' := Host.Outcome.next.inj ((hstep s rfl).symm.trans hs)
  have ht' : f t = t' := Host.Outcome.next.inj ((hstep t hst.1.symm).symm.trans ht)
  rw [← hs', ← ht', hst.eq_withTransportOf, hf t s]
  exact sameButTransport_withTransportOf t (f s)

end Sys2Proof.Safety
end

section
/-! SUPPORT. The agents between ticks (spec/20_memory.md R70, R72). -/

namespace Sys2Proof.Safety
open Sys2Proof.Machine

/-- With no frame pending, the frame is stored and flagged in one step. -/
theorem step_rxDeliver {s : State} {f : Vector Byte 13} {es : List Event} (h0 : s.stage = 0)
    (henv : s.env = .rxDeliver f :: es) (hready : s.flags.frameReady = false) :
    step s = .next ((storeFrame f (s.setEnv es)).setFlags { s.flags with frameReady := true }) := by
  rw [step_of_agentEvent h0 henv (by simp)]
  simp only [agentEffect, rxDeliver, setEnv_flags, hready, Bool.false_eq_true, if_false]

/-- With one pending, the frame is lost. -/
theorem step_rxDeliver_pending {s : State} {f : Vector Byte 13} {es : List Event} (h0 : s.stage = 0)
    (henv : s.env = .rxDeliver f :: es) (hready : s.flags.frameReady = true) : step s = .next (s.setEnv es) := by
  rw [step_of_agentEvent h0 henv (by simp)]
  simp only [agentEffect, rxDeliver, setEnv_flags, hready, if_true]

/-- While bytes are left, the next one leaves. -/
theorem step_txDrain {s : State} {es : List Event} (h0 : s.stage = 0) (henv : s.env = .txDrain :: es)
    (hcount : s.txCount ≠ 0) :
    step s = .next (((s.setEnv es).setTxCount (s.txCount - 1)).setTxSent (nextTxByte s)) := by
  rw [step_of_agentEvent h0 henv (by simp)]
  simp only [agentEffect, txDrain, setEnv_txCount, hcount, ne_eq, not_false_eq_true, if_true]
  rfl

theorem step_txDrain_empty {s : State} {es : List Event} (h0 : s.stage = 0) (henv : s.env = .txDrain :: es)
    (hcount : s.txCount = 0) : step s = .next (s.setEnv es) := by
  rw [step_of_agentEvent h0 henv (by simp)]
  simp only [agentEffect, txDrain, setEnv_txCount, hcount, ne_eq, not_true_eq_false, if_false]

/-- Drains in a row leave the record alone, so each takes the byte after the one before it. -/
theorem run_txDrains {s : State} {es : List Event} {k : Nat} (h0 : s.stage = 0)
    (henv : s.env = List.replicate (k + 1) .txDrain ++ es) (hk : k < s.txCount) :
    ∃ t, core.run (k + 1) s = .next t ∧ t.txSent = (txFrame s.txRec)[29 - (s.txCount - k)]? ∧
      t.txCount = s.txCount - (k + 1) ∧ t.txRec = s.txRec := by
  induction k generalizing s with
  | zero => exact ⟨_, run_succ_of_step (M := core) (step_txDrain h0 henv (by omega)) 0, rfl, rfl, rfl⟩
  | succ k ih =>
    have first := step_txDrain h0 henv (by omega)
    have hk' : k < s.txCount - 1 := by omega
    obtain ⟨t, hrun, hsent, hcount, hrec⟩ :=
      ih (s := ((s.setEnv (_ ++ es)).setTxCount (s.txCount - 1)).setTxSent (nextTxByte s)) h0 rfl hk'
    refine ⟨t, (run_succ_of_step (M := core) first _).trans hrun, ?_, ?_, hrec⟩
    · simpa [Nat.sub_sub, Nat.add_comm] using hsent
    · simpa [Nat.sub_sub, Nat.add_comm] using hcount

/-- Settles O14: an agent's step by its event and whether the agent is enabled, and 29 drains by induction. -/
theorem transportAgentsStep : Obligations.TransportAgentsStep := by
  refine ⟨fun s f es h0 henv hwf => ⟨fun hready => ?_, step_rxDeliver_pending h0 henv⟩,
    fun s es h0 henv => ⟨fun hcount => ?_, step_txDrain_empty h0 henv⟩, fun s es k h0 henv hcount hk => ?_⟩
  · exact ⟨_, step_rxDeliver h0 henv hready, rfl, fun k hk => rxByte_storeFrame (s := s.setEnv es) hwf hk,
      fun k hk => rxByte_storeFrame_above (s := s.setEnv es) hwf hk⟩
  · obtain ⟨_, hstart, hlow, hhigh⟩ := txFrame_bytes s.txRec
    refine ⟨_, step_txDrain h0 henv hcount, fun h => ?_, fun _ => rfl, fun h => ?_, fun h => ?_⟩
    · rw [nextTxByte, h]; exact hstart
    · rw [nextTxByte, h]; exact hlow
    · rw [nextTxByte, h]; exact hhigh
  · obtain ⟨m, hm⟩ : ∃ m, 29 = (k + 1) + m := ⟨28 - k, by omega⟩
    rw [hm, List.replicate_add, List.append_assoc] at henv
    obtain ⟨t, hrun, hsent, hleft, hrec⟩ := run_txDrains h0 henv (by omega)
    have hplace : 29 - (s.txCount - k) = k := by omega
    have hbyte := List.getElem?_eq_getElem (l := txFrame s.txRec) (i := k) (by rwa [txFrame_length])
    rw [hplace, hbyte] at hsent
    exact ⟨t, _, hrun, hsent, hbyte, by omega, hrec⟩

end Sys2Proof.Safety
end

section
/-! SUPPORT. The eMTB ROM (spec/20_memory.md R62, R63). -/

namespace Sys2Proof.Machine

/-- The tables lie one after the other, so an address gives back its level and index. -/
theorem lut_eq (P : Params) {level idx : Nat} (hlevel : 1 ≤ level) (hidx : idx ≤ 240) :
    lut P level idx = P.emtbLut level idx := by
  have hentry : ((level - 1) * 241 + idx) / 241 + 1 = level ∧ ((level - 1) * 241 + idx) % 241 = idx := by omega
  simp only [lut, romRead, lutAddress, Config.EMTB_ENTRIES, hentry]

theorem emtbIndex_le (s : State) : emtbIndex s ≤ 240 := Nat.min_le_right _ _

theorem emtbIndex_mono {s t : State} (h : s.sensor.torqueDelta ≤ t.sensor.torqueDelta) : emtbIndex s ≤ emtbIndex t :=
  min_le_min_right _ (Nat.add_le_add_right h _)

theorem lut_mono {P : Params} (hP : P.Legal) {level i j : Nat} (h1 : 1 ≤ level) (h20 : level ≤ 20) (hij : i ≤ j)
    (hj : j ≤ 240) : lut P level i ≤ lut P level j := by
  rw [lut_eq P h1 (hij.trans hj), lut_eq P h1 hj]
  exact hP.lutMono level i j h1 h20 hij hj

end Sys2Proof.Machine

namespace Sys2Proof.Safety
open Sys2Proof.Machine

/-- Settles O37: the address arithmetic, and the laws of the table that a legal record has. -/
theorem lookupTable : Obligations.LookupTable := by
  have hP := Config.P_legal
  refine ⟨fun level idx h1 h20 hidx => ?_, fun level i j h1 h20 => lut_mono hP h1 h20, fun level h1 h20 s t h =>
    lut_mono hP h1 h20 (emtbIndex_mono h) (emtbIndex_le t), ?_, ?_⟩
  · have hbelow : (level - 1) * 241 + idx < 4820 := by omega
    have hlut := lut_eq Config.P h1 hidx
    exact ⟨rfl, hbelow, hlut, hlut, hlut.trans_le (hP.lutBound level idx h1 h20 hidx)⟩
  · exact (lut_eq Config.P le_rfl (by decide)).trans hP.lutFirst
  · exact (lut_eq Config.P le_rfl (by decide)).trans hP.lutLast

end Sys2Proof.Safety
end

section
/-! SUPPORT. The canonical form of the RX space, the fault code and the Cruise bounds (spec/20_memory.md R68,
spec/46_health_monitor.md R318, spec/43_cruise_pid.md R251): each piece is written at one place, and what is written
there agrees. -/

namespace Sys2Proof.Safety
open Sys2Proof.Machine

variable {P : Params} {s t : State}

theorem MemoryCanonical.of_rxBuf (h : MemoryCanonical s) (hbuf : t.rxBuf = s.rxBuf) : MemoryCanonical t := by
  rw [MemoryCanonical, hbuf]
  exact h

theorem FaultCodeAgrees.of_kept (h : FaultCodeAgrees s) (hmb : t.flags.mbFault = s.flags.mbFault)
    (hts : t.flags.tsFault = s.flags.tsFault) (hcode : t.csr.fault = s.csr.fault) : FaultCodeAgrees t := by
  rw [FaultCodeAgrees, hmb, hts, hcode]
  exact h

theorem PidBounded.of_pid (h : PidBounded s) (hpid : t.pid = s.pid) : PidBounded t := by
  rw [PidBounded, hpid]
  exact h

/-! ### What an agent keeps -/

/-- The receive buffer is written with whole frames only, or emptied. -/
theorem agentStep_memoryCanonical (e : Event) (h : MemoryCanonical s) : MemoryCanonical (agentStep P e s) := by
  cases e with
  | tick inp => exact h
  | rxDeliver f =>
    simp only [agentStep, agentEffect, rxDeliver]
    split_ifs
    · exact h
    · exact storeFrame_wf h
  | txDrain =>
    simp only [agentStep, agentEffect, txDrain]
    split_ifs <;> exact h
  | rst => exact rfl

theorem agentStep_faultCodeAgrees (e : Event) (h : FaultCodeAgrees s) : FaultCodeAgrees (agentStep P e s) := by
  rcases agentStep_exists P e s with hr | ⟨m, b, x, n, _, ha⟩
  · rw [hr]
    exact rfl
  · rw [ha]
    exact h

theorem agentStep_pidBounded (e : Event) (h : PidBounded s) : PidBounded (agentStep P e s) := by
  rcases agentStep_exists P e s with hr | ⟨m, b, x, n, _, ha⟩
  · rw [hr]
    exact resetMeetsInvariant.pid.of_pid rfl
  · rw [ha]
    exact h

/-! ### What a stage keeps -/

/-- HEALTH computes the code from the latches it has just written (R318). -/
theorem health_faultCodeAgrees (s : State) : FaultCodeAgrees (health s) := rfl

/-- An update clamps both, whatever they were (R245, R247). -/
theorem cruiseUpdate_pidBounded (P : Params) (s : State) : PidBounded (cruiseUpdate P s) := by
  obtain ⟨hlo, hhi⟩ := clampInt_bounds (v := (cruiseError s).pid.integral + (cruiseError s).pid.error)
    (lo := 0) (hi := 1000) (by decide)
  exact ⟨hlo, hhi, clampInt_bounds (by decide)⟩

theorem lawDispatch_pidBounded (m : Mode) (p : Byte) (h : PidBounded s) : PidBounded (lawDispatch P m p s) := by
  by_cases hm : m = .cruise
  · subst hm
    simp only [lawDispatch, lawCruise]
    split_ifs <;> [exact cruiseUpdate_pidBounded _ _; exact cruiseUpdate_pidBounded _ _; exact h]
  · rw [lawDispatch_of_ne_cruise P hm]
    exact h

theorem law_pidBounded (h : PidBounded s) : PidBounded (law P s) := by
  have prepared : PidBounded (lawPrologue P s) := by
    unfold lawPrologue
    dsimp only
    split_ifs <;> exact h
  exact lawDispatch_pidBounded (modeOf s.csr.mode) s.csr.param prepared

/-- CRUISE is no stage operation. -/
theorem fetch_ne_cruise (s : State) (p : Byte) : fetch s ≠ .cruise p := by
  rcases fetch_cases s with ⟨_, h⟩ | ⟨_, h⟩ | ⟨_, h⟩ | ⟨_, h⟩ | ⟨_, h⟩ | ⟨_, h⟩ | ⟨_, h⟩ | ⟨_, h⟩ <;> simp [h]

/-- The stage operations' two writers keep their piece, and no other operation writes it. -/
theorem exec_fetch_keeps (h : exec (fetch s) s = .next t) :
    (MemoryCanonical s → MemoryCanonical t) ∧ (FaultCodeAgrees s → FaultCodeAgrees t) ∧
      (PidBounded s → PidBounded t) := by
  have w := exec_writes h
  refine ⟨fun hm => hm.of_rxBuf w.buffer, fun hf => ?_, fun hp => ?_⟩
  · by_cases hi : fetch s = .health
    · rw [hi] at h
      obtain rfl := Host.Outcome.next.inj h
      exact health_faultCodeAgrees s
    · obtain ⟨hmb, hts, hcode, _⟩ := w.faults hi
      exact hf.of_kept hmb hts hcode
  · by_cases hi : fetch s = .law
    · rw [hi] at h
      obtain rfl := Host.Outcome.next.inj h
      exact law_pidBounded hp
    · exact hp.of_pid (w.cruise hi (fetch_ne_cruise s)).1

/-- Settles O58: an agent keeps all three, and so does the stage operation. -/
theorem memoryFaultCodeAndCruiseAreKept : Obligations.MemoryFaultCodeAndCruiseAreKept := by
  intro s t hstep
  rcases step_cases hstep with ⟨e, _, rfl⟩ | ⟨_, h⟩
  · exact ⟨agentStep_memoryCanonical e, agentStep_faultCodeAgrees e, agentStep_pidBounded e⟩
  · exact exec_fetch_keeps h

end Sys2Proof.Safety
end

section
/-! SUPPORT. Decoding and encoding undo each other (spec/30_encoding.md R90 to R94, R100 to R102), and what the three
tests of acceptance are. -/

namespace Sys2Proof

/-! ### The table word of a code -/

theorem decode_rxf_of_decodeFrame {f : Vector Byte 13} {k : MsgId} {a : FrameArgs} (h : decodeFrame f = .ok (k, a)) :
    decode (.rxf f) = .ok (frameInstr k a) := by
  simp only [decode, h]

/-- A frame that decodes begins with the start byte. -/
theorem start_of_decode_rxf {f : Vector Byte 13} {i : Instr} (h : decode (.rxf f) = .ok i) :
    f[0] = Config.RX_START := by
  by_contra hstart
  have rejected : decodeFrame f = .error .badStart := if_neg hstart
  simp [decode, rejected] at h

/-- A code that decodes is read back from its table word; the start byte tells the order of a frame's bytes. -/
theorem tableCode_codeWord {c : Code} {i : Instr} (h : decode c = .ok i) :
    tableCode (codeWord c).1 (codeWord c).2 = some c := by
  cases c with
  | stage b =>
    have hb : b.toNat < 8 := b.isLt
    simp [codeWord, tableCode, hb]
  | cmd w =>
    have hw : w.toNat < 65536 := w.isLt
    simp [codeWord, tableCode, hw]
  | ovl b =>
    have hb : b.toNat < 4 := b.isLt
    simp [codeWord, tableCode, hb]
  | rxf f =>
    have hword : natOfBytes f.toList < 2 ^ 104 := by
      simpa using natOfBytes_lt f.toList
    have hframe := tableFrame_natOfBytes f (start_of_decode_rxf h)
    simp only [codeWord, tableCode, if_pos hword, hframe]
    rfl

theorem decodeTableWord_codeWord {c : Code} {i : Instr} (h : decode c = .ok i) :
    decodeTableWord (codeWord c).1 (codeWord c).2 = some i := by
  simp only [decodeTableWord, tableCode_codeWord h, h]

/-! ### The code of an instruction -/

theorem modeOf_modeCode (m : Mode) : modeOf (modeCode m) = m := by cases m <;> rfl

theorem encode_cmdInstr (m : Mode) (p : Byte) : encode (cmdInstr m p) = .cmd (cmdWord m p) := by cases m <;> rfl

theorem encode_frameInstr (k : MsgId) (a : FrameArgs) : encode (frameInstr k a) = .rxf (frameBytes k a) := by
  cases k <;> rfl

theorem decode_encode_cmdInstr (m : Mode) (p : Byte) : decode (encode (cmdInstr m p)) = .ok (cmdInstr m p) := by
  simp only [encode_cmdInstr, decode, cmdWord, append_hi, append_lo, modeOf_modeCode]

theorem decode_encode_frameInstr (k : MsgId) (a : FrameArgs) :
    decode (encode (frameInstr k a)) = .ok (frameInstr k a) := by
  rw [encode_frameInstr]
  exact decode_rxf_of_decodeFrame (decodeFrame_frameBytes k a)

/-- By format: stage and overlay codes have no operand, a command word holds two bytes, a frame its fields. -/
theorem decode_encode (i : Instr) : decode (encode i) = .ok i := by
  cases i
  case idle | sense | health | law | overlay | speedlim | arbiter | comm => rfl
  case ovlNone | ovlThrottle | ovlTemp => rfl
  case off p => exact decode_encode_cmdInstr .off p
  case power p => exact decode_encode_cmdInstr .power p
  case cadence p => exact decode_encode_cmdInstr .cadence p
  case torque p => exact decode_encode_cmdInstr .torque p
  case emtb p => exact decode_encode_cmdInstr .emtb p
  case walk p => exact decode_encode_cmdInstr .walk p
  case cruise p => exact decode_encode_cmdInstr .cruise p
  case calib p => exact decode_encode_cmdInstr .calib p
  case frameLimits a => exact decode_encode_frameInstr .limits a
  case frameWheelAssist a => exact decode_encode_frameInstr .wheelAssist a
  case frameOptfn a => exact decode_encode_frameInstr .optFn a
  case frameHallAngles a => exact decode_encode_frameInstr .hallAngles a
  case frameHallOffsets a => exact decode_encode_frameInstr .hallOffsets a

/-- Settles O1: every instruction decodes from its code, and every code that decodes is read back from its word. -/
theorem decodeEncodeAgree : Obligations.DecodeEncodeAgree :=
  fun i => decodeTableWord_codeWord (decode_encode i)

/-! ### Acceptance -/

theorem decodeFrame_ok_iff {f : Vector Byte 13} {k : MsgId} {a : FrameArgs} :
    decodeFrame f = .ok (k, a) ↔ frameBytes k a = f :=
  ⟨fun h => (frameBytes_of_decodeFrame h).symm, fun h => h ▸ decodeFrame_frameBytes k a⟩

theorem exists_msgOf_iff (b : Byte) : (∃ k, msgOf b = some k) ↔ b.toNat ≤ 4 := by
  unfold msgOf
  split
  case h_6 => exact iff_of_false (by simp) (by grind)
  all_goals simp [*]

/-- Without the CRC, the tests are the start byte and the message-ID. -/
theorem exists_decodeFrame_iff (f : Vector Byte 13) :
    (∃ r, decodeFrame f = .ok r) ↔ f[0] = Config.RX_START ∧ f[1].toNat ≤ 4 := by
  rw [← exists_msgOf_iff]
  unfold decodeFrame
  split_ifs with hstart
  · cases hk : msgOf f[1] <;> simp [hstart]
  · exact iff_of_false (by simp) fun h => hstart h.1

theorem acceptFrame_ok_iff {P : Params} {f : Vector Byte 13} {r : MsgId × FrameArgs} :
    acceptFrame P f = .ok r ↔ decodeFrame f = .ok r ∧ P.crc16 (crcCovered f) = u16le f[11] f[12] := by
  unfold acceptFrame
  cases decodeFrame f with
  | ok q => by_cases hcrc : P.crc16 (crcCovered f) = u16le f[11] f[12] <;> simp [hcrc]
  | error e => simp

theorem wellFormed_frameInstr (P : Params) (k : MsgId) (a : FrameArgs) :
    (frameInstr k a).wellFormed P = true ↔
      P.crc16 (crcCovered (frameBytes k a)) = u16le a.crcLo a.crcHi := by
  have check : (frameInstr k a).wellFormed P = frameWellFormed P k a := by cases k <;> rfl
  rw [check, frameWellFormed, decide_eq_true_iff]

/-- Settles O2: acceptance is the frame's decoding and its CRC, and a frame that decodes is the encoding. -/
theorem acceptedFramesAreEncodings : Obligations.AcceptedFramesAreEncodings := by
  intro P f k a
  rw [acceptFrame_ok_iff, decodeFrame_ok_iff, encode_frameInstr, wellFormed_frameInstr, Code.rxf.injEq]
  refine and_congr_right fun hf => ?_
  subst hf
  exact Iff.rfl

end Sys2Proof

namespace Sys2Proof.Machine

theorem exists_acceptFrame_iff (P : Params) (f : Vector Byte 13) :
    (∃ r, acceptFrame P f = .ok r) ↔ Safety.Acceptable P f := by
  have tests : (∃ r, acceptFrame P f = .ok r) ↔
      (f[0] = Config.RX_START ∧ f[1].toNat ≤ 4) ∧ P.crc16 (crcCovered f) = u16le f[11] f[12] := by
    simp only [acceptFrame_ok_iff, exists_and_right, exists_decodeFrame_iff]
  rw [tests, and_right_comm, and_assoc]
  exact Iff.rfl

/-- With no frame pending there is nothing to receive. -/
theorem receive_consumeFrame (P : Params) (s : State) : receive P (consumeFrame s) = (consumeFrame s, false) := rfl

/-- A frame that is not acceptable is consumed and has no other effect. -/
theorem receive_of_not_acceptable {P : Params} {s : State} (h : ¬ Safety.Acceptable P (rxFrame s)) :
    receive P s = (consumeFrame s, false) := by
  rcases receive_cases P s with ⟨hready, e⟩ | ⟨_, k, f, hok, _⟩ | ⟨_, _, e⟩
  · have consumed : consumeFrame s = s := by rw [consumeFrame, ← hready, setFlags_self]
    rw [e, consumed]
  · exact absurd ((exists_acceptFrame_iff P (rxFrame s)).mp ⟨_, hok⟩) h
  · exact e

/-- At an exchange a frame that is not acceptable might as well not be there. -/
theorem exchange_consumeFrame {P : Params} {s : State} (hphase : s.tickMod4 = Config.EXCHANGE_PHASE)
    (h : ¬ Safety.Acceptable P (rxFrame s)) : exchange P (consumeFrame s) = exchange P s := by
  have hphase' : (consumeFrame s).tickMod4 = Config.EXCHANGE_PHASE := hphase
  simp only [exchange, if_pos hphase, if_pos hphase', receive_of_not_acceptable h, receive_consumeFrame]

end Sys2Proof.Machine

namespace Sys2Proof.Safety
open Sys2Proof.Machine

/-- Settles O3: COMM begins by clearing its strobe, which leaves the frame pending and the buffer as they are. -/
theorem frameAcceptance : Obligations.FrameAcceptance := by
  refine ⟨exists_acceptFrame_iff, fun s hphase hbad => ?_⟩
  have dropped := exchange_consumeFrame (P := Config.P) (s := s.setOut { s.out with hallCfgValid := false }) hphase hbad
  change _ = exec .comm (consumeFrame s)
  rw [exec_comm, exec_comm, Machine.comm, ← dropped]
  rfl

end Sys2Proof.Safety
end

section
/-! SUPPORT. A step is an agent's step or the stage operation fetched, and each answers a next state
(spec/30_encoding.md R96, R106, spec/60_exceptions.md R360). -/

namespace Sys2Proof.Machine

/-- With no agent due, the stage operation runs. -/
theorem step_of_dueAgent_none {s : State} (quiet : dueAgent s = none) : step s = exec (fetch s) s := by
  rw [step, quiet]

theorem step_of_dueAgent_some {s : State} {e : Event} (due : dueAgent s = some e) :
    step s = .next (agentStep Config.P e s) := by
  rw [step, due]

/-- No agent is due inside a tick, with no event to come, or when the next event is a tick. -/
theorem dueAgent_eq_none {s : State} (h : s.stage ≠ 0 ∨ s.env = [] ∨ ∃ inp es, s.env = .tick inp :: es) :
    dueAgent s = none := by
  refine Option.eq_none_iff_forall_ne_some.mpr fun e due => ?_
  obtain ⟨hstage, hnext, hagent⟩ := dueAgent_some.mp due
  rcases h with hin | henv | ⟨inp, es, henv⟩
  · exact hin hstage
  · simp [henv] at hnext
  · refine hagent inp ?_
    simpa [henv] using hnext.symm

/-- All 24 arms of `exec` give a meaning: none refuses. -/
theorem exec_answers_next (i : Instr) (s : State) : ∃ t, exec i s = .next t := by
  cases i <;> exact ⟨_, rfl⟩

theorem step_answers_next (s : State) : ∃ t, step s = .next t := by
  cases hdue : dueAgent s with
  | some e => exact ⟨_, step_of_dueAgent_some hdue⟩
  | none =>
    rw [step_of_dueAgent_none hdue]
    exact exec_answers_next (fetch s) s

end Sys2Proof.Machine

namespace Sys2Proof.Safety
open Sys2Proof.Machine

/-- Settles O6: the stage code always decodes, to the operation the sequencer fetches. -/
theorem stepRunsFetchedOperation : Obligations.StepRunsFetchedOperation := fun s h =>
  ⟨fetch s, rfl, step_of_dueAgent_none (dueAgent_eq_none h)⟩

/-- Settles O12: no step and no operation ends in a fault or a refusal. -/
theorem nothingStopsTheMachine : Obligations.NothingStopsTheMachine := ⟨step_answers_next, exec_answers_next⟩

end Sys2Proof.Safety
end

section
/-! SUPPORT. The shape of `lerp`: its rise from 0, to which every other pair of ends reduces
(spec/40_arith_primitives.md R135, R136). -/

namespace Sys2Proof.Machine

/-- The rise from 0 is the plain quotient, on the closed span. -/
theorem lerp_zero_eq_div {x x0 x1 m : Nat} (h0 : x0 ≤ x) (h1 : x ≤ x1) (hspan : x0 < x1) :
    lerp x x0 x1 0 m = ((x - x0) * m) / (x1 - x0) := by
  rcases h0.eq_or_lt with rfl | hlo
  · rw [lerp_low le_rfl, Nat.sub_self, Nat.zero_mul, Nat.zero_div]
  · rcases h1.eq_or_lt with rfl | hhi
    · rw [lerp_high hlo le_rfl, Nat.mul_div_cancel_left m (Nat.sub_pos_of_lt hspan)]
    · rw [lerp_rising hlo hhi (Nat.zero_le m), Nat.zero_add, Nat.sub_zero]

theorem lerp_eq_add_rise {x x0 x1 y0 y1 : Nat} (hy : y0 ≤ y1) :
    lerp x x0 x1 y0 y1 = y0 + lerp x x0 x1 0 (y1 - y0) := by
  rcases Nat.lt_or_ge x0 x with hlo | hlo
  · rcases Nat.lt_or_ge x x1 with hhi | hhi
    · rw [lerp_rising hlo hhi hy, lerp_zero_eq_div hlo.le hhi.le (hlo.trans hhi)]
    · rw [lerp_high hlo hhi, lerp_high hlo hhi, Nat.add_sub_cancel' hy]
  · rw [lerp_low hlo, lerp_low hlo, Nat.add_zero]

theorem lerp_eq_sub_rise {x x0 x1 y0 y1 : Nat} (hy : y1 < y0) :
    lerp x x0 x1 y0 y1 = y0 - lerp x x0 x1 0 (y0 - y1) := by
  rcases Nat.lt_or_ge x0 x with hlo | hlo
  · rcases Nat.lt_or_ge x x1 with hhi | hhi
    · rw [lerp_falling hlo hhi hy, lerp_zero_eq_div hlo.le hhi.le (hlo.trans hhi)]
    · rw [lerp_high hlo hhi, lerp_high hlo hhi, Nat.sub_sub_self hy.le]
  · rw [lerp_low hlo, lerp_low hlo, Nat.sub_zero]

theorem lerp_zero_mono {x x' x0 x1 m : Nat} (h : x ≤ x') : lerp x x0 x1 0 m ≤ lerp x' x0 x1 0 m := by
  rcases Nat.lt_or_ge x0 x with hlo | hlo
  · rcases Nat.lt_or_ge x' x1 with hhi | hhi
    · rw [lerp_zero_eq_div hlo.le (h.trans hhi.le) (by omega), lerp_zero_eq_div (hlo.le.trans h) hhi.le (by omega)]
      exact Nat.div_le_div_right (Nat.mul_le_mul_right m (Nat.sub_le_sub_right h x0))
    · rw [lerp_high (hlo.trans_le h) hhi]
      exact lerp_le (Nat.zero_le m) le_rfl
  · rw [lerp_low hlo]
    exact Nat.zero_le _

theorem lerp_mono {x x' x0 x1 y0 y1 : Nat} (h : x ≤ x') (hy : y0 ≤ y1) :
    lerp x x0 x1 y0 y1 ≤ lerp x' x0 x1 y0 y1 := by
  rw [lerp_eq_add_rise hy, lerp_eq_add_rise hy]
  exact Nat.add_le_add_left (lerp_zero_mono h) y0

theorem lerp_anti {x x' x0 x1 y0 y1 : Nat} (h : x ≤ x') (hy : y1 < y0) :
    lerp x' x0 x1 y0 y1 ≤ lerp x x0 x1 y0 y1 := by
  rw [lerp_eq_sub_rise hy, lerp_eq_sub_rise hy]
  exact Nat.sub_le_sub_left (lerp_zero_mono h) y0

/-- Interpolation stays above any bound below its two end values. -/
theorem le_lerp {x x0 x1 y0 y1 b : Nat} (h0 : b ≤ y0) (h1 : b ≤ y1) : b ≤ lerp x x0 x1 y0 y1 := by
  rcases Nat.lt_or_ge y1 y0 with hy | hy
  · rw [lerp_eq_sub_rise hy]
    have hrise : lerp x x0 x1 0 (y0 - y1) ≤ y0 - y1 := lerp_le (Nat.zero_le _) le_rfl
    omega
  · rw [lerp_eq_add_rise hy]
    exact h0.trans (Nat.le_add_right y0 _)

theorem lerp_zero_zero (x x0 x1 : Nat) : lerp x x0 x1 0 0 = 0 := Nat.le_zero.mp (lerp_le le_rfl le_rfl)

/-- The centre of a derating band of even width: the fall is half the input rounded down. -/
theorem lerp_centre (x0 y : Nat) {h : Nat} (hpos : 0 < h) :
    lerp (x0 + h) x0 (x0 + 2 * h) y 0 = (y + 1) / 2 := by
  rcases Nat.eq_zero_or_pos y with rfl | hy
  · exact lerp_zero_zero _ _ _
  · have hfall : lerp (x0 + h) x0 (x0 + 2 * h) 0 y = y / 2 := by
      rw [lerp_zero_eq_div (by omega) (by omega) (by omega), Nat.add_sub_cancel_left, Nat.add_sub_cancel_left,
        Nat.mul_comm 2 h, Nat.mul_div_mul_left y 2 hpos]
    rw [lerp_eq_sub_rise hy, Nat.sub_zero, hfall]
    omega

end Sys2Proof.Machine

namespace Sys2Proof.Safety
open Sys2Proof.Machine

/-- Settles O53: the bounds on both sides, the rise and the fall by monotony of the rise from 0, and the values. -/
theorem lerpProperties : Obligations.LerpProperties := by
  refine ⟨fun x x0 x1 y0 y1 => ⟨?between_lower, ?between_upper⟩,
    fun _ _ _ _ _ _ h => ⟨lerp_mono h, lerp_anti h⟩, fun x x0 x1 y => ?derates, lerp_zero_zero,
    fun x0 _ y hpos => lerp_centre x0 y hpos, fun x m hx => ?quotient, ?values⟩
  case between_lower => exact le_lerp (Nat.min_le_left y0 y1) (Nat.min_le_right y0 y1)
  case between_upper => exact lerp_le (Nat.le_max_left y0 y1) (Nat.le_max_right y0 y1)
  case derates => exact lerp_le le_rfl (Nat.zero_le y)
  case quotient => exact lerp_zero_eq_div (Nat.zero_le x) hx (by decide)
  case values => decide

end Sys2Proof.Safety
end

section
/-! SUPPORT. The shift filter under a constant input: how far its accumulator is from the range of the accumulators
that show the input, and that each sample closes this gap (spec/40_arith_primitives.md R137, R138). -/

namespace Sys2Proof.Machine

/-- A filter step takes the filtered value away and adds the sample, and never runs below 0. -/
theorem iir_add_div (acc raw k : Nat) : iir acc raw k + acc / 2 ^ k = acc + raw := by
  have hself : acc / 2 ^ k ≤ acc := Nat.div_le_self acc (2 ^ k)
  unfold iir shiftRight
  omega

/-- The lower counterpart of `iir_le`: an accumulator above a level stays above it while the samples do. -/
theorem le_iir {acc raw k m : Nat} (hr : m ≤ raw) (ha : m * 2 ^ k ≤ acc) : m * 2 ^ k ≤ iir acc raw k := by
  have hstep := iir_add_div acc raw k
  have hvalue : m ≤ acc / 2 ^ k := (Nat.le_div_iff_mul_le (Nat.two_pow_pos k)).mpr ha
  have hbase : acc / 2 ^ k * 2 ^ k ≤ acc := Nat.div_mul_le_self acc (2 ^ k)
  have hrearranged : m * 2 ^ k + acc / 2 ^ k * 1 ≤ m * 1 + acc / 2 ^ k * 2 ^ k :=
    mul_add_mul_le_mul_add_mul hvalue Nat.one_le_two_pow
  omega

/-- How far `acc` is below or above the accumulators `v * 2 ^ k` to `v * 2 ^ k + (2 ^ k - 1)`, whose filtered value
is `v`. -/
def filterGap (acc v k : Nat) : Nat := (v * 2 ^ k - acc) + (acc + 1 - (v * 2 ^ k + 2 ^ k))

theorem filterGap_eq_zero_iff {acc v k : Nat} : filterGap acc v k = 0 ↔ acc / 2 ^ k = v := by
  rw [Nat.div_eq_iff (Nat.two_pow_pos k)]
  have hk : 0 < 2 ^ k := Nat.two_pow_pos k
  unfold filterGap
  omega

/-- Below the input the accumulator rises, above it falls, and neither passes over the range that shows the input. -/
theorem filterGap_iir_le (acc v k : Nat) : filterGap (iir acc v k) v k ≤ filterGap acc v k - 1 := by
  have hk : 0 < 2 ^ k := Nat.two_pow_pos k
  have hstep := iir_add_div acc v k
  rcases Nat.lt_trichotomy (acc / 2 ^ k) v with hbelow | hshown | habove
  · have hacc : acc < v * 2 ^ k := (Nat.div_lt_iff_lt_mul hk).mp hbelow
    have hkept : iir acc v k ≤ v * 2 ^ k := iir_le le_rfl hacc.le
    unfold filterGap
    omega
  · have hfixed : iir acc v k = acc := by omega
    rw [hfixed, filterGap_eq_zero_iff.mpr hshown]
  · have hacc : (v + 1) * 2 ^ k ≤ acc := (Nat.le_div_iff_mul_le hk).mp habove
    rw [Nat.succ_mul] at hacc
    have hkept : v * 2 ^ k ≤ iir acc v k := le_iir le_rfl (by omega)
    unfold filterGap
    omega

theorem filterGap_iterate_le (acc v k j : Nat) :
    filterGap ((fun a => iir a v k)^[j] acc) v k ≤ filterGap acc v k - j := by
  induction j with
  | zero => exact le_rfl
  | succ j ih =>
    rw [Function.iterate_succ_apply']
    have hnext := filterGap_iir_le ((fun a => iir a v k)^[j] acc) v k
    omega

/-- After as many equal samples as the gap, the filter shows the sample, and goes on showing it. -/
theorem iterate_iir_div {acc v k j : Nat} (h : filterGap acc v k ≤ j) :
    (fun a => iir a v k)^[j] acc / 2 ^ k = v := by
  have hgap := filterGap_iterate_le acc v k j
  exact filterGap_eq_zero_iff.mp (by omega)

end Sys2Proof.Machine

namespace Sys2Proof.Safety
open Sys2Proof.Machine

/-- Settles O54: the accumulator's bound, convergence within `filterGap` samples, and the worked values. -/
theorem filterConverges : Obligations.FilterConverges :=
  ⟨fun _ _ _ _ => iir_le, fun acc v k => ⟨filterGap acc v k, fun _ => iterate_iir_div⟩, by decide⟩

end Sys2Proof.Safety
end

section
/-! SUPPORT. What each register holds after SENSE (spec/41_sensor_conditioning.md): the measured quantities, the four
calibration cases, and the torque readings. -/

namespace Sys2Proof.Machine

theorem natCast_satSub (a b : Nat) : (satSub a b : Int) = max 0 ((a : Int) - (b : Int)) := by
  unfold satSub
  omega

/-! ### The calibration cases of R170 -/

theorem calibrate_before {P : Params} {s : State} (h : s.cnt.calTicks < P.calStartTicks) : calibrate P s = s :=
  if_pos h

theorem calibrate_within {P : Params} {s : State} (hstart : P.calStartTicks ≤ s.cnt.calTicks)
    (hend : s.cnt.calTicks < P.calEndTicks) : calibrate P s = calibWindow P s := by
  rw [calibrate, if_neg hstart.not_gt, if_pos hend]

/-- The end of the window is not before its start only because the configuration is legal. -/
theorem calibrate_atEnd {P : Params} {s : State} (hP : P.calStartTicks ≤ P.calEndTicks)
    (h : s.cnt.calTicks = P.calEndTicks) : calibrate P s = calibEnd P s := by
  rw [calibrate, if_neg (hP.trans h.ge).not_gt, if_neg h.not_lt, if_pos h]

theorem calibrate_after {P : Params} {s : State} (hP : P.calStartTicks ≤ P.calEndTicks)
    (h : P.calEndTicks < s.cnt.calTicks) : calibrate P s = s := by
  rw [calibrate, if_neg (hP.trans h.le).not_gt, if_neg h.not_gt, if_neg h.ne']

/-- The corrected offset, floored at 0 (R173). -/
theorem calibEnd_torqueOffset (P : Params) (s : State) :
    ((calibEnd P s).filt.torqueOffset : Int) = max 0 ((s.filt.torqueOffset : Int) + P.calCorrection) :=
  Int.toNat_of_nonneg (le_max_left _ _)

/-! ### SENSE as measurement, calibration, count and torque -/

/-- SENSE up to the calibration: the rules R161 to R168, which take the sample into the SensorSample. -/
def senseMeasured (P : Params) (s : State) : State :=
  senseErps (senseTicksMin P (senseCadence P (senseWheel P (senseIbat P (senseVbat P s)))))

/-- The offset's registers and the done flag are what the calibration makes of the measured state. -/
theorem sense_filt (P : Params) (s : State) : (sense P s).filt = (calibrate P (senseMeasured P s)).filt := rfl

theorem sense_flags (P : Params) (s : State) : (sense P s).flags = (calibrate P (senseMeasured P s)).flags := rfl

theorem sense_calTicks (P : Params) (s : State) :
    (sense P s).cnt.calTicks = min (s.cnt.calTicks + 1) (P.calEndTicks + 1) := by
  change min ((calibrate P (senseMeasured P s)).cnt.calTicks + 1) _ = _
  rw [calibrate_eq]
  rfl

/-- The calibration and the torque rules leave the measured quantities as they are, and the torque readings take the
offset as just updated. -/
theorem sense_sensor (P : Params) (s : State) : (sense P s).sensor =
    { (senseMeasured P s).sensor with
      torqueAdc := s.inp.adcTorque.toNat
      torqueDelta := satSub s.inp.adcTorque.toNat (sense P s).filt.torqueOffset
      torqueX100 := satSub s.inp.adcTorque.toNat (sense P s).filt.torqueOffset * s.csr.torquePerStepX100.toNat } := by
  rw [sense_filt]
  change (senseTorquePhys (senseTorque (countCalTick P (calibrate P (senseMeasured P s))))).sensor = _
  rw [calibrate_eq]
  rfl

/-! ### The measured quantities -/

theorem sense_vbatAcc (P : Params) (s : State) :
    (sense P s).filt.vbatAcc = iir s.filt.vbatAcc s.inp.adcVbat.toNat P.vbatK := by
  rw [sense_filt, calibrate_eq]
  rfl

theorem sense_vbatX1000 (P : Params) (s : State) :
    (sense P s).sensor.vbatX1000 = shiftRight (sense P s).filt.vbatAcc P.vbatK * P.vbatMvPerStep := by
  rw [sense_sensor, sense_vbatAcc]
  rfl

theorem sense_ibatX10 (P : Params) (s : State) :
    (sense P s).sensor.ibatX10 = s.inp.adcIbatFilt.toNat * P.ibatStepX100 / 10 := by
  rw [sense_sensor]
  rfl

theorem sense_wheelSpeedX10 (P : Params) (s : State) :
    (sense P s).sensor.wheelSpeedX10 = if s.inp.wheelTicks = 0 then 0
      else min 65535 (s.csr.wheelPerimeterMm.toNat * P.wheelNum / s.inp.wheelTicks.toNat) := by
  rw [sense_sensor]
  rfl

theorem sense_cadenceRpm (P : Params) (s : State) :
    (sense P s).sensor.cadenceRpm = if s.inp.cadenceTicks = 0 then 0
      else min 255 (P.cadenceNum / s.inp.cadenceTicks.toNat) := by
  rw [sense_sensor]
  rfl

/-- The threshold is taken at this tick's wheel speed: R167 runs before R166. -/
theorem sense_cadenceTicksMin (P : Params) (s : State) :
    (sense P s).sensor.cadenceTicksMin =
      lerp (sense P s).sensor.wheelSpeedX10 P.ctmSpeedLoX10 P.ctmSpeedHiX10 P.ctmTicksLo P.ctmTicksHi := by
  rw [sense_sensor]
  rfl

theorem sense_motorErps (P : Params) (s : State) : (sense P s).sensor.motorErps = s.inp.motorErps.toNat := by
  rw [sense_sensor]
  rfl

/-! ### What SENSE leaves alone -/

/-- `sense_eq` with the filters whole: the temperature's filter is among those SENSE keeps. -/
theorem sense_frame (P : Params) (s : State) : sense P s =
    ((((s.setSensor (sense P s).sensor).setFilt (sense P s).filt).setCnt
      { s.cnt with calTicks := (sense P s).cnt.calTicks }).setFlags
      { s.flags with calDone := (sense P s).flags.calDone }).setStage 2 := by
  obtain ⟨x, f, n, b, e⟩ := sense_exists P s
  rw [e]
  rfl

/-! ### The calibration after SENSE -/

/-- Where the calibration does nothing (R171, R174), SENSE keeps its registers. -/
theorem sense_keeps_calibration {P : Params} {s : State}
    (h : calibrate P (senseMeasured P s) = senseMeasured P s) :
    (sense P s).filt.toffAcc = s.filt.toffAcc ∧ (sense P s).filt.torqueOffset = s.filt.torqueOffset ∧
    (sense P s).filt.coasterThr = s.filt.coasterThr ∧ (sense P s).flags.calDone = s.flags.calDone := by
  rw [sense_filt, sense_flags, h]
  exact ⟨rfl, rfl, rfl, rfl⟩

/-- In the window the offset is filtered towards the live reading (R172). -/
theorem sense_within_window {P : Params} {s : State} (hstart : P.calStartTicks ≤ s.cnt.calTicks)
    (hend : s.cnt.calTicks < P.calEndTicks) :
    (sense P s).filt.toffAcc = iir s.filt.toffAcc s.inp.adcTorque.toNat P.toffK ∧
    (sense P s).filt.torqueOffset = shiftRight (sense P s).filt.toffAcc P.toffK ∧
    (sense P s).filt.coasterThr = s.filt.coasterThr ∧ (sense P s).flags.calDone = s.flags.calDone := by
  rw [sense_filt, sense_flags, calibrate_within (s := senseMeasured P s) hstart hend]
  exact ⟨rfl, rfl, rfl, rfl⟩

/-- At the window's end the offset is corrected and the coaster threshold taken from the corrected offset (R173). -/
theorem sense_at_window_end {P : Params} {s : State} (hP : P.calStartTicks ≤ P.calEndTicks)
    (h : s.cnt.calTicks = P.calEndTicks) :
    (sense P s).filt.toffAcc = s.filt.toffAcc ∧
    ((sense P s).filt.torqueOffset : Int) = max 0 ((s.filt.torqueOffset : Int) + P.calCorrection) ∧
    (sense P s).filt.coasterThr = satSub (sense P s).filt.torqueOffset P.coasterConst ∧
    (sense P s).flags.calDone = true := by
  rw [sense_filt, sense_flags, calibrate_atEnd (s := senseMeasured P s) hP h]
  exact ⟨rfl, calibEnd_torqueOffset P (senseMeasured P s), rfl, rfl⟩

/-! ### The torque readings after SENSE -/

theorem sense_torqueAdc (P : Params) (s : State) : (sense P s).sensor.torqueAdc = s.inp.adcTorque.toNat := by
  rw [sense_sensor]

/-- The delta is against the offset as just updated (R175). -/
theorem sense_torqueDelta (P : Params) (s : State) :
    (sense P s).sensor.torqueDelta = satSub (sense P s).sensor.torqueAdc (sense P s).filt.torqueOffset := by
  rw [sense_sensor]

theorem sense_torqueX100 (P : Params) (s : State) :
    (sense P s).sensor.torqueX100 = (sense P s).sensor.torqueDelta * s.csr.torquePerStepX100.toNat := by
  rw [sense_sensor]

end Sys2Proof.Machine

namespace Sys2Proof.Safety
open Sys2Proof.Machine

/-- Settles O20: the case by the tick count at entry (R170), then the count and the torque readings. -/
theorem senseCalibratesTorque : Obligations.SenseCalibratesTorque := by
  intro s
  have hP : Config.P.calStartTicks ≤ Config.P.calEndTicks := Config.P_legal.calEndTicks.1
  refine ⟨sense Config.P s, rfl, fun before => ?_, sense_within_window, sense_at_window_end hP, fun after => ?_,
    sense_calTicks _ s, sense_torqueAdc _ s, ?_, sense_torqueX100 _ s⟩
  · exact sense_keeps_calibration (calibrate_before before)
  · exact sense_keeps_calibration (calibrate_after hP after)
  · rw [sense_torqueDelta, natCast_satSub]

/-- Settles O19: one lemma per measured register, and the frame. -/
theorem senseMeasures : Obligations.SenseMeasures := by
  intro s
  have hwrites := sense_writes Config.P s
  obtain ⟨htempAcc, htempX10⟩ := hwrites.temperature (by decide) (by decide)
  have hrx (k : Nat) : (sense Config.P s).rxByte k = s.rxByte k := congrArg (Memory.read k) hwrites.buffer
  exact ⟨sense Config.P s, rfl, sense_vbatAcc _ s, sense_vbatX1000 _ s, sense_ibatX10 _ s, sense_wheelSpeedX10 _ s,
    sense_cadenceRpm _ s, sense_cadenceTicksMin _ s, sense_motorErps _ s, sense_frame _ s, htempAcc, htempX10, hrx⟩

end Sys2Proof.Safety
end

section
/-! SUPPORT. The operand values the laws share, what each riding mode's law does, and how the current-controlled ones
shape their ramps (spec/42_assist_laws.md R194 to R210). -/

namespace Sys2Proof.Machine
open Sys2Proof.Safety (currentTuple)

/-! ### The operand values -/

/-- The floor at 0 of the threshold asks for a positive torque delta besides. -/
theorem satSub_lt_iff {a b d : Nat} : satSub a b < d ↔ (a : Int) - b < d ∧ 0 < d := by
  unfold satSub
  omega

/-! ### What each law does -/

/-- The epilogue of the current-controlled laws (R197, then R195). -/
theorem rampShape_setCurrent (P : Params) (i cad : Nat) (s : State) :
    rampShape P cad (setCurrent P i s) = s.setA (currentTuple P i cad s) := by
  have hduty : (if min i s.iMax ≠ 0 then P.dutyMax else s.a.dutyTarget) =
      if min i s.iMax = 0 then s.a.dutyTarget else P.dutyMax := ite_not ..
  simp only [rampShape, setCurrent, hduty]
  rfl

theorem lawPower_eq (P : Params) (p : Byte) (s : State) : lawPower P p s =
    s.setA (currentTuple P (p2i P s ((effCadence P.awprRpmPower s * p.toNat * s.sensor.torqueX100) / 480))
      (effCadence P.awprRpmPower s) s) :=
  rampShape_setCurrent ..

theorem lawCadence_turning {P : Params} {p : Byte} {s : State} (h : s.sensor.cadenceRpm ≠ 0) : lawCadence P p s =
    s.setA (currentTuple P (p2i P s (min (p.toNat * P.cadPowerPerUnitX100) P.cadPowerMaxX100)) s.sensor.cadenceRpm s) :=
  (if_pos h).trans (rampShape_setCurrent ..)

theorem lawCadence_still {P : Params} {p : Byte} {s : State} (h : s.sensor.cadenceRpm = 0) : lawCadence P p s = s :=
  if_neg (not_not_intro h)

theorem lawTorque_acts {P : Params} {p : Byte} {s : State}
    (h : effCadence P.awprRpmTorque s ≠ 0 ∧ s.sensor.torqueDelta ≠ 0) : lawTorque P p s =
    s.setA (currentTuple P ((s.sensor.torqueDelta * p.toNat) / 110) (effCadence P.awprRpmTorque s) s) :=
  (if_pos h).trans (rampShape_setCurrent ..)

theorem lawTorque_noAction {P : Params} {p : Byte} {s : State}
    (h : ¬ (effCadence P.awprRpmTorque s ≠ 0 ∧ s.sensor.torqueDelta ≠ 0)) : lawTorque P p s = s :=
  if_neg h

/-- The index saturates at the last entry, so the ROM is read inside the selected table (R206). -/
theorem lawEmtb_acts {P : Params} {p : Byte} {s : State}
    (h : effCadence P.awprRpmEmtb s ≠ 0 ∧ s.sensor.torqueDelta ≠ 0 ∧ 1 ≤ p.toNat ∧ p.toNat ≤ 20) : lawEmtb P p s =
    s.setA (currentTuple P (P.emtbLut p.toNat (min (s.sensor.torqueDelta + 10) 240)) (effCadence P.awprRpmEmtb s) s) := by
  have hentry : lut P p.toNat (emtbIndex s) = P.emtbLut p.toNat (emtbIndex s) := by
    obtain ⟨_, _, hlevel, _⟩ := h
    exact lut_eq P hlevel (emtbIndex_le s)
  calc lawEmtb P p s = rampShape P (effCadence P.awprRpmEmtb s) (setCurrent P (lut P p.toNat (emtbIndex s)) s) := if_pos h
    _ = _ := by rw [rampShape_setCurrent, hentry]; rfl

theorem lawEmtb_noAction {P : Params} {p : Byte} {s : State}
    (h : ¬ (effCadence P.awprRpmEmtb s ≠ 0 ∧ s.sensor.torqueDelta ≠ 0 ∧ 1 ≤ p.toNat ∧ p.toNat ≤ 20)) :
    lawEmtb P p s = s :=
  if_neg h

theorem lawWalk_slow {P : Params} {p : Byte} {s : State} (h : s.sensor.wheelSpeedX10 < P.walkSpeedMaxX10) :
    lawWalk P p s = s.setA { iTarget := min P.walkICap s.iMax, dutyTarget := min p.toNat 80, rampUp := P.walkRampUp,
                             rampDown := P.rampDownDefault } :=
  if_pos h

theorem lawWalk_fast {P : Params} {p : Byte} {s : State} (h : P.walkSpeedMaxX10 ≤ s.sensor.wheelSpeedX10) :
    lawWalk P p s = s :=
  if_neg h.not_gt

theorem lawDispatch_rxByte (P : Params) (m : Mode) (p : Byte) (s : State) (k : Nat) :
    (lawDispatch P m p s).rxByte k = s.rxByte k :=
  congrArg (Memory.read k) (Safety.lawDispatch_writes P m p s).buffer

/-! ### The shape of a ramp -/

/-- One ramp value of `ramp_shape`: the smaller of the two interpolations, over wheel speed and over cadence (R195). -/
def shapedRamp (v cad dflt least : Nat) : Nat :=
  min (lerp v Config.RAMP_SPEED_LO_X10 Config.RAMP_SPEED_HI_X10 dflt least)
    (lerp cad Config.RAMP_CAD_LO Config.RAMP_CAD_HI dflt least)

theorem rampShape_rampUp (P : Params) (cad : Nat) (s : State) :
    (rampShape P cad s).a.rampUp = shapedRamp s.sensor.wheelSpeedX10 cad P.rampUpDefault P.rampUpMin := rfl

theorem rampShape_rampDown (P : Params) (cad : Nat) (s : State) :
    (rampShape P cad s).a.rampDown = shapedRamp s.sensor.wheelSpeedX10 cad P.rampDownDefault P.rampDownMin := rfl

theorem le_shapedRamp {v cad dflt least : Nat} (h : least ≤ dflt) : least ≤ shapedRamp v cad dflt least :=
  le_min (le_lerp h le_rfl) (le_lerp h le_rfl)

theorem shapedRamp_le {v cad dflt least : Nat} (h : least ≤ dflt) : shapedRamp v cad dflt least ≤ dflt :=
  (Nat.min_le_left _ _).trans (lerp_le le_rfl h)

/-- One interpolation at its end takes the whole ramp to the least value. -/
theorem shapedRamp_eq_least {v cad dflt least : Nat} (h : least ≤ dflt) (hfast : 200 ≤ v ∨ 70 ≤ cad) :
    shapedRamp v cad dflt least = least := by
  refine le_antisymm ?_ (le_shapedRamp h)
  rcases hfast with hv | hcad
  · exact (Nat.min_le_left _ _).trans (lerp_high (Nat.lt_of_lt_of_le (by decide) hv) hv).le
  · exact (Nat.min_le_right _ _).trans (lerp_high (Nat.lt_of_lt_of_le (by decide) hcad) hcad).le

theorem shapedRamp_eq_default {v cad dflt least : Nat} (hv : v ≤ 40) (hcad : cad ≤ 20) :
    shapedRamp v cad dflt least = dflt := by
  rw [shapedRamp, lerp_low hv, lerp_low hcad, Nat.min_self]

end Sys2Proof.Machine

namespace Sys2Proof.Safety
open Sys2Proof.Machine

/-- Settles O36: a legal record has its least ramps at or below its default ramps. -/
theorem shapedRampsInRange : Obligations.ShapedRampsInRange := by
  intro cad s
  have hup : Config.P.rampUpMin ≤ Config.P.rampUpDefault := Config.P_legal.rampUpDefault.1
  have hdown : Config.P.rampDownMin ≤ Config.P.rampDownDefault := Config.P_legal.rampDownDefault.1
  simp only [rampShape_rampUp, rampShape_rampDown]
  exact ⟨⟨le_shapedRamp hup, shapedRamp_le hup⟩, ⟨le_shapedRamp hdown, shapedRamp_le hdown⟩,
    fun h => ⟨shapedRamp_eq_least hup h, shapedRamp_eq_least hdown h⟩,
    fun ⟨hv, hcad⟩ => ⟨shapedRamp_eq_default hv hcad, shapedRamp_eq_default hv hcad⟩⟩

/-- Settles O25: the operations of mode OFF and of no overlay are the identity. -/
theorem offAndNoOverlayDoNothing : Obligations.OffAndNoOverlayDoNothing :=
  fun p s => ⟨exec_cmdInstr .off p s, exec_ovlInstr .none s⟩

/-- Settles O26: the two readings of the condition, with the floor at 0 written out, and the two of `p2i`. -/
theorem effectiveCadenceAndCurrent : Obligations.EffectiveCadenceAndCurrent := by
  refine ⟨fun n s => ⟨fun hon hwheel hpedals htorque hpos => ?_, fun h => ?_⟩, fun P s p => ⟨p2i_of_zero, p2i_of_ne⟩⟩
  · exact if_pos ⟨fun h0 => hon (congrArg BitVec.toNat h0), hwheel, hpedals, satSub_lt_iff.mpr ⟨htorque, hpos⟩⟩
  · refine if_neg fun ⟨hon, hwheel, hpedals, htorque⟩ => ?_
    have hon' : s.csr.awprThreshold.toNat ≠ 0 := fun h0 => hon (BitVec.eq_of_toNat_eq h0)
    obtain ⟨hexceeds, hpos⟩ := satSub_lt_iff.mp htorque
    rcases h with h | h | h | h | h
    · exact hon' h
    · exact h hwheel
    · exact h hpedals
    · exact absurd hexceeds h.not_gt
    · exact hpos.ne' h

/-- Settles O27. -/
theorem powerLaw : Obligations.PowerLaw := fun p s =>
  ⟨_, rfl, lawPower_eq .., lawDispatch_rxByte _ .power p s⟩

/-- Settles O28: the two cases of the cadence. -/
theorem cadenceLaw : Obligations.CadenceLaw := fun p s =>
  ⟨_, rfl, lawCadence_turning, lawCadence_still, lawDispatch_rxByte _ .cadence p s⟩

/-- Settles O29: the gate of the law, and its other side. -/
theorem torqueLaw : Obligations.TorqueLaw := fun p s =>
  ⟨_, rfl, lawTorque_acts, lawTorque_noAction, lawDispatch_rxByte _ .torque p s⟩

/-- Settles O30: the gate of the law, and its other side. -/
theorem emtbLaw : Obligations.EmtbLaw := fun p s =>
  ⟨_, rfl, lawEmtb_acts, lawEmtb_noAction, lawDispatch_rxByte _ .emtb p s⟩

/-- Settles O31: the two cases of the wheel speed. -/
theorem walkLaw : Obligations.WalkLaw := fun p s =>
  ⟨_, rfl, lawWalk_slow, lawWalk_fast, lawDispatch_rxByte _ .walk p s⟩

/-- Settles O32. -/
theorem calibLaw : Obligations.CalibLaw := fun p s =>
  ⟨_, rfl, rfl, lawDispatch_rxByte _ .calib p s⟩

end Sys2Proof.Safety
end

section
/-! SUPPORT. Stage LAW: what it sets up and which operation it executes (spec/42_assist_laws.md R190 to R192), the
reserved modes (R212), and the limits of the tuple it leaves (R214). -/

namespace Sys2Proof

theorem decode_command (m p : Byte) : decode (.cmd (m ++ p)) = .ok (cmdInstr (modeOf m) p) := by
  rw [decode, append_hi, append_lo]

/-- Codes 8 to 255 are reserved (spec/30_encoding.md R92). -/
theorem modeOf_reserved {m : Byte} (h : 8 ≤ m.toNat) : modeOf m = .off := by
  unfold modeOf
  split
  case h_8 => rfl
  all_goals omega

end Sys2Proof

namespace Sys2Proof.Machine

/-- What LAW sets up: the ceiling, the default tuple and, but for mode CRUISE, the re-arming. -/
theorem lawPrologue_eq (P : Params) (s : State) : lawPrologue P s =
    ((s.setIMax (currentCeiling P s)).setA (defaultTuple P)).setFlags
      { s.flags with cruiseInitPending := if modeOf s.csr.mode = .cruise then s.flags.cruiseInitPending else true } := by
  by_cases hm : modeOf s.csr.mode = .cruise
  · rw [if_pos hm]
    exact if_neg (not_not_intro hm)
  · rw [if_neg hm]
    exact if_pos hm

/-- In mode OFF LAW leaves what it set up. -/
theorem law_of_off {P : Params} {s : State} (h : modeOf s.csr.mode = .off) : law P s =
    (((s.setIMax (currentCeiling P s)).setA (defaultTuple P)).setFlags
      { s.flags with cruiseInitPending := true }).setStage 4 := by
  rw [law, lawPrologue_eq, h]
  rfl

theorem currentCeiling_bounds (P : Params) (s : State) : currentCeiling P s ≤ s.csr.iMaxAdc.toNat ∧
    currentCeiling P s ≤ P.adcIAbsMax ∧ currentCeiling P s ≤ p2i P s (s.csr.pMaxW.toNat * 100) := by
  unfold currentCeiling
  omega

/-- The latch the motor-blocked detector writes before does not enter the torque-sensor fault. -/
theorem health_tsFault (s : State) : (health s).flags.tsFault = tsCond s := by
  change tsCond (detectMotorBlocked s) = _
  rw [detectMotorBlocked_eq]
  rfl

theorem health_mode (s : State) : (health s).csr.mode = s.csr.mode := by
  rw [health_eq]
  rfl

/-- Mode OFF consumes no torque reading, so it arms no torque-sensor fault. -/
theorem tsCond_of_off {s : State} (h : modeOf s.csr.mode = .off) : tsCond s = false := by
  rw [tsCond, h]
  rfl

end Sys2Proof.Machine

namespace Sys2Proof.Safety
open Sys2Proof.Machine

variable {P : Params} {s t : State}

/-- Settles O7: the set-up, then the operation of the decoded mode. -/
theorem lawExecutesCommandWord : Obligations.LawExecutesCommandWord := by
  intro s
  refine ⟨_, _, decode_command _ _, exec_cmdInstr .., ?_⟩
  rw [exec_law, law, lawPrologue_eq]
  rfl

/-- Settles O4: a reserved mode and mode 0 both decode to OFF, after which the code is read no more. -/
theorem reservedModesActAsOff : Obligations.ReservedModesActAsOff := by
  intro m s reserved
  have hoff : modeOf m = .off := modeOf_reserved reserved
  have hzero : modeOf (s.setCsr { s.csr with mode := 0 }).csr.mode = .off := rfl
  have hcode : modeOf (s.setCsr { s.csr with mode := m }).csr.mode = .off := hoff
  refine ⟨fun p => ?_, ⟨_, exec_law _, ?_, ?_⟩, ⟨_, exec_health _, ?_, health_mode _⟩⟩
  · rw [decode_command, hoff]
    rfl
  · rw [exec_law, law_of_off hcode, law_of_off hzero]
    rfl
  · rw [law_of_off hzero]
    rfl
  · rw [health_tsFault, tsCond_of_off hcode]

/-! ### The limits of the tuple -/

/-- The largest duty target of a mode: Walk has a ceiling of its own (R208). -/
def dutyCeiling (P : Params) : Mode → Nat
  | .walk => Config.WALK_DUTY_CEIL
  | _ => P.dutyMax

theorem dutyCeiling_of_ne_walk {m : Mode} (h : m ≠ .walk) : dutyCeiling P m = P.dutyMax := by
  cases m
  case walk => exact absurd rfl h
  all_goals rfl

/-- The duty target is at most `duty`, and both ramps are at or above their floors. -/
structure AssistLimits (P : Params) (duty : Nat) (a : DriveTuple) : Prop where
  duty : a.dutyTarget ≤ duty
  rampUp : P.rampUpMin ≤ a.rampUp
  rampDown : P.rampDownMin ≤ a.rampDown

theorem AssistLimits.ite {c : Prop} [Decidable c] {duty : Nat} (ht : AssistLimits P duty t.a)
    (hs : AssistLimits P duty s.a) : AssistLimits P duty (if c then t else s).a := by
  split_ifs
  · exact ht
  · exact hs

theorem defaultTuple_assistLimits (hP : P.Legal) (duty : Nat) : AssistLimits P duty (defaultTuple P) :=
  ⟨Nat.zero_le _, hP.rampUpDefault.1, hP.rampDownDefault.1⟩

theorem currentLaw_assistLimits (hP : P.Legal) (i cad : Nat) (h : AssistLimits P P.dutyMax s.a) :
    AssistLimits P P.dutyMax (rampShape P cad (setCurrent P i s)).a where
  duty := by
    rw [rampShape_dutyTarget, setCurrent_eq, setA_a]
    split_ifs
    · exact le_rfl
    · exact h.duty
  rampUp := le_shapedRamp hP.rampUpDefault.1
  rampDown := le_shapedRamp hP.rampDownDefault.1

theorem cruiseUpdate_assistLimits (hP : P.Legal) (s : State) : AssistLimits P P.dutyMax (cruiseUpdate P s).a :=
  ⟨lerp_le (Nat.zero_le _) (Nat.sub_le _ _), hP.cruiseRampUp.1, hP.rampDownDefault.1⟩

/-- A law that acts sets a tuple within the limits of its mode; one that does not leaves the tuple. -/
theorem lawDispatch_assistLimits (hP : P.Legal) (m : Mode) (p : Byte) (h : AssistLimits P (dutyCeiling P m) s.a) :
    AssistLimits P (dutyCeiling P m) (lawDispatch P m p s).a := by
  cases m
  case off => exact h
  case power => exact currentLaw_assistLimits hP _ _ h
  case cadence => exact .ite (currentLaw_assistLimits hP _ _ h) h
  case torque => exact .ite (currentLaw_assistLimits hP _ _ h) h
  case emtb => exact .ite (currentLaw_assistLimits hP _ _ h) h
  case walk => exact .ite ⟨Nat.min_le_right _ _, hP.walkRampUp.1, hP.rampDownDefault.1⟩ h
  case cruise => exact .ite (cruiseUpdate_assistLimits hP _) h
  case calib => exact ⟨(Nat.min_le_right _ _).trans (Nat.sub_le _ _), hP.calRampUp.1, hP.calRampDown.1⟩

theorem law_assistLimits (hP : P.Legal) (s : State) :
    AssistLimits P (dutyCeiling P (modeOf s.csr.mode)) (law P s).a := by
  refine lawDispatch_assistLimits hP (modeOf s.csr.mode) s.csr.param (s := lawPrologue P s) ?_
  rw [lawPrologue_eq]
  exact defaultTuple_assistLimits hP _

/-- Settles O35: the ceiling is below its three bounds and the request below the ceiling; the rest is the limits of the
mode's law. -/
theorem lawStaysWithinLimits : Obligations.LawStaysWithinLimits := by
  intro s t h
  obtain rfl : law Config.P s = t := Host.Outcome.next.inj h
  obtain ⟨_, hceiling, _⟩ := law_sets_ceiling Config.P s
  obtain ⟨hadc, habs, hpower⟩ := currentCeiling_bounds Config.P s
  obtain ⟨hduty, hup, hdown⟩ := law_assistLimits Config.P_legal s
  rw [← hceiling] at hadc habs hpower
  refine ⟨law_request Config.P s, hadc, habs, hpower, fun hm => ?_, fun hm => ?_, hup, hdown⟩
  · rwa [dutyCeiling_of_ne_walk hm] at hduty
  · rwa [hm] at hduty

end Sys2Proof.Safety
end

section
/-! SUPPORT. The Cruise law: where an active tick starts from, what one controller update computes, and how LAW re-arms
the initialisation (spec/43_cruise_pid.md R242 to R250). -/

namespace Sys2Proof.Machine
open Sys2Proof.Safety (cruiseUpdate_pidBounded lawDispatch_of_ne_cruise)

/-- Where the bounds are in order, it does not matter which of them a clamp applies first. -/
theorem clampInt_eq_max_min {v lo hi : Int} (h : lo ≤ hi) : clampInt v lo hi = max lo (min hi v) := by
  unfold clampInt
  omega

/-! ### Where an active tick starts from -/

/-- The state the controller update of an active tick starts from: initialised on entry, else as it is (R242, R243). -/
def cruiseStart (p : Byte) (s : State) : State := if s.flags.cruiseInitPending then cruiseInit p s else s

theorem cruiseStart_entry {p : Byte} {s : State} (h : s.flags.cruiseInitPending = true) :
    cruiseStart p s = cruiseInit p s :=
  if_pos h

theorem cruiseStart_resumed {p : Byte} {s : State} (h : s.flags.cruiseInitPending = false) : cruiseStart p s = s :=
  if_neg (ne_true_of_eq_false h)

/-- Afterwards no initialisation is pending, and nothing else but the Cruise registers has changed. -/
theorem cruiseStart_eq (p : Byte) (s : State) : cruiseStart p s =
    (s.setPid (cruiseStart p s).pid).setFlags { s.flags with cruiseInitPending := false } := by
  cases h : s.flags.cruiseInitPending
  case true =>
    rw [cruiseStart_entry h]
    rfl
  case false =>
    rw [cruiseStart_resumed h, ← h]
    rfl

@[simp] theorem cruiseStart_sensor (p : Byte) (s : State) : (cruiseStart p s).sensor = s.sensor := by
  rw [cruiseStart_eq]
  rfl

@[simp] theorem cruiseStart_iMax (p : Byte) (s : State) : (cruiseStart p s).iMax = s.iMax := by
  rw [cruiseStart_eq]
  rfl

/-- The target latched on entry: the parameter in km/h, or the present speed for parameter 0 (R243). -/
theorem cruiseInit_targetX10 (p : Byte) (s : State) :
    (cruiseInit p s).pid.targetX10 = if p = 0 then s.sensor.wheelSpeedX10 else p.toNat * 10 :=
  ite_not ..

/-! ### One controller update -/

section Update
variable (P : Params) (s : State)

/-- An update writes the Cruise registers and AssistOutput only. -/
theorem cruiseUpdate_eq : cruiseUpdate P s = (s.setPid (cruiseUpdate P s).pid).setA (cruiseUpdate P s).a := rfl

theorem cruiseUpdate_targetX10 : (cruiseUpdate P s).pid.targetX10 = s.pid.targetX10 := rfl

theorem cruiseUpdate_error :
    (cruiseUpdate P s).pid.error = ((cruiseUpdate P s).pid.targetX10 : Int) - s.sensor.wheelSpeedX10 := rfl

theorem cruiseUpdate_lastError : (cruiseUpdate P s).pid.lastError = (cruiseUpdate P s).pid.error := rfl

theorem cruiseUpdate_integral :
    (cruiseUpdate P s).pid.integral = max 0 (min 1000 (s.pid.integral + (cruiseUpdate P s).pid.error)) :=
  clampInt_eq_max_min (by decide)

theorem cruiseUpdate_derivative :
    (cruiseUpdate P s).pid.derivative = (cruiseUpdate P s).pid.error - s.pid.lastError := rfl

/-- The dividend is not negative, so truncating division (the model's) and flooring division agree on it (R247). -/
theorem cruiseUpdate_output : (cruiseUpdate P s).pid.output =
    max 0 (min 1000 (P.kp * (cruiseUpdate P s).pid.error + (P.kiNum * (cruiseUpdate P s).pid.integral) / P.kiDen
      + P.kd * (cruiseUpdate P s).pid.derivative)) := by
  obtain ⟨hintegral, _⟩ := cruiseUpdate_pidBounded P s
  rw [← Int.tdiv_eq_ediv_of_nonneg (mul_nonneg (Int.natCast_nonneg P.kiNum) hintegral)]
  exact clampInt_eq_max_min (by decide)

/-- The output is at most 1000, so a quarter of it lies within the span of the duty map (R248). -/
theorem cruiseUpdate_a : (cruiseUpdate P s).a =
    { iTarget := s.iMax, dutyTarget := (((cruiseUpdate P s).pid.output.toNat / 4) * (P.dutyMax - 1)) / 250,
      rampUp := P.cruiseRampUp, rampDown := P.rampDownDefault } := by
  obtain ⟨_, _, _, houtput⟩ := cruiseUpdate_pidBounded P s
  have hspan : (cruiseUpdate P s).pid.output.toNat / 4 ≤ 250 := by omega
  have hduty := lerp_zero_eq_div (m := P.dutyMax - 1) (Nat.zero_le _) hspan (by decide)
  exact congrArg (DriveTuple.mk s.iMax · P.cruiseRampUp P.rampDownDefault) hduty

end Update

/-! ### The law -/

section Law
variable {P : Params} {p : Byte} {s : State}

theorem lawCruise_active (h : P.cruiseSpeedMinX10 < s.sensor.wheelSpeedX10) :
    lawCruise P p s = cruiseUpdate P (cruiseStart p s) :=
  if_pos h

theorem lawCruise_inactive (h : s.sensor.wheelSpeedX10 ≤ P.cruiseSpeedMinX10) : lawCruise P p s = s :=
  if_neg h.not_gt

/-- Only the initialisation reads the parameter (hazard H5 of spec/70_reset_and_hazards.md). -/
theorem lawCruise_ignores_param (p q : Byte) (h : s.flags.cruiseInitPending = false) :
    lawCruise P p s = lawCruise P q s := by
  rcases Nat.lt_or_ge P.cruiseSpeedMinX10 s.sensor.wheelSpeedX10 with hfast | hslow
  · rw [lawCruise_active hfast, lawCruise_active hfast, cruiseStart_resumed h, cruiseStart_resumed h]
  · rw [lawCruise_inactive hslow, lawCruise_inactive hslow]

/-- An active tick writes the Cruise registers and AssistOutput, and clears the pending initialisation. -/
theorem lawCruise_active_eq (h : P.cruiseSpeedMinX10 < s.sensor.wheelSpeedX10) : lawCruise P p s =
    ((s.setPid (lawCruise P p s).pid).setFlags { s.flags with cruiseInitPending := false }).setA (lawCruise P p s).a := by
  rw [lawCruise_active h, cruiseUpdate_eq, cruiseStart_eq]
  rfl

end Law

/-! ### LAW in mode CRUISE and in the others -/

section Stage
variable {P : Params} {s : State}

theorem law_of_ne_cruise (h : modeOf s.csr.mode ≠ .cruise) : law P s =
    (((s.setIMax (currentCeiling P s)).setA (law P s).a).setFlags
      { s.flags with cruiseInitPending := true }).setStage 4 := by
  rw [law, lawDispatch_of_ne_cruise P h, lawPrologue_eq, if_neg h]
  rfl

theorem law_of_cruise (h : modeOf s.csr.mode = .cruise) : law P s =
    (lawCruise P s.csr.param ((s.setIMax (currentCeiling P s)).setA (defaultTuple P))).setStage 4 := by
  rw [law, lawPrologue_eq, if_pos h, h]
  rfl

theorem law_of_active_cruise (h : modeOf s.csr.mode = .cruise)
    (hfast : P.cruiseSpeedMinX10 < s.sensor.wheelSpeedX10) : (law P s).flags.cruiseInitPending = false := by
  rw [law_of_cruise h, lawCruise_active_eq]
  · rfl
  · exact hfast

theorem law_of_inactive_cruise (h : modeOf s.csr.mode = .cruise)
    (hslow : s.sensor.wheelSpeedX10 ≤ P.cruiseSpeedMinX10) :
    law P s = ((s.setIMax (currentCeiling P s)).setA (defaultTuple P)).setStage 4 := by
  rw [law_of_cruise h, lawCruise_inactive]
  exact hslow

end Stage

end Sys2Proof.Machine

namespace Sys2Proof.Safety
open Sys2Proof.Machine

/-- Settles O33: the update's registers, at the start the pending flag gives it. -/
theorem cruiseActive : Obligations.CruiseActive := by
  intro p s hfast
  refine ⟨lawCruise Config.P p s, rfl, lawCruise_active_eq hfast, ?_⟩
  rw [lawCruise_active hfast]
  refine ⟨fun entry => ?_, fun resumed => ?_, ?_, cruiseUpdate_lastError .., cruiseUpdate_output .., ?_, fun k => ?_⟩
  · rw [cruiseStart_entry entry]
    exact ⟨cruiseInit_targetX10 p s, cruiseUpdate_integral .., Int.sub_zero _⟩
  · rw [cruiseStart_resumed resumed]
    exact ⟨cruiseUpdate_targetX10 .., cruiseUpdate_integral .., cruiseUpdate_derivative ..⟩
  · rw [cruiseUpdate_error, cruiseStart_sensor]
  · rw [cruiseUpdate_a, cruiseStart_iMax]
  · rw [← lawCruise_active hfast]
    exact lawDispatch_rxByte Config.P .cruise p s k

/-- Settles O34: the two sides of the threshold, alone and after what LAW sets up. -/
theorem cruiseHoldsAndRearms : Obligations.CruiseHoldsAndRearms := by
  refine ⟨fun p q s => ⟨fun hslow => ?_, fun hpending => ?_⟩,
    fun s => ⟨law Config.P s, rfl, fun hmode => ?_, law_of_active_cruise, fun hmode hslow => ?_⟩⟩
  · exact congrArg Host.Outcome.next (lawCruise_inactive hslow)
  · exact congrArg Host.Outcome.next (lawCruise_ignores_param p q hpending)
  · rw [law_of_ne_cruise hmode]
    exact ⟨rfl, rfl⟩
  · rw [law_of_inactive_cruise hmode hslow]
    exact ⟨rfl, rfl, rfl⟩

end Sys2Proof.Safety
end

section
/-! SUPPORT. OVERLAY, its two acting overlays and SPEEDLIM: which of them acts, what each requests, and the derating band
of the speed limiter (spec/44_overlay_speed_limiter.md R260 to R270). -/

namespace Sys2Proof.Machine

/-! ### A derating band -/

/-- Derating reaches 0 only at the upper end of its band: before it, the fall is less than the whole input. -/
theorem lerp_derate_pos {x x0 x1 y : Nat} (hx : x < x1) (hy : 0 < y) : 0 < lerp x x0 x1 y 0 := by
  rcases Nat.lt_or_ge x0 x with hlo | hlo
  · have hinside : x - x0 < x1 - x0 := Nat.sub_lt_sub_right hlo.le hx
    have hfall : (x - x0) * y / (x1 - x0) < y := Nat.div_lt_of_lt_mul (Nat.mul_lt_mul_of_pos_right hinside hy)
    rw [lerp_falling hlo hx hy]
    exact Nat.sub_pos_of_lt hfall
  · rwa [lerp_low hlo]

/-- `lerp_centre` for a band given by its centre and half-width, not cut off at 0. -/
theorem lerp_centre_of_le {x h : Nat} (y : Nat) (hpos : 0 < h) (hle : h ≤ x) :
    lerp x (x - h) (x + h) y 0 = (y + 1) / 2 := by
  obtain ⟨x0, rfl⟩ := Nat.exists_eq_add_of_le' hle
  rw [Nat.add_sub_cancel, Nat.add_assoc, ← Nat.two_mul]
  exact lerp_centre x0 y hpos

/-! ### The overlays -/

/-- An overlay leaves the received bytes alone. -/
theorem overlayDispatch_rxByte (P : Params) (o : Overlay) (s : State) (k : Nat) :
    (overlayDispatch P o s).rxByte k = s.rxByte k :=
  congrArg (Memory.read k) (Safety.overlayDispatch_writes P o s).buffer

/-- The inner map ends at 255, so the outer one is the plain quotient (R263). -/
theorem throttleCurrent_eq (P : Params) (s : State) : throttleCurrent P s =
    (lerp s.inp.adcAux.toNat P.thrAdcMin P.thrAdcMax 0 255 * s.iMax) / 255 :=
  lerp_zero_eq_div (Nat.zero_le _) (lerp_le (Nat.zero_le _) le_rfl) (by decide)

theorem throttleCurrent_le (P : Params) (s : State) : throttleCurrent P s ≤ s.iMax := lerp_le (Nat.zero_le _) le_rfl

theorem overlayThrottle_overrides {P : Params} {s : State} (h : s.a.iTarget < throttleCurrent P s) :
    overlayThrottle P s = s.setA
      { iTarget := throttleCurrent P s, dutyTarget := P.dutyMax
        rampUp := lerp s.sensor.wheelSpeedX10 P.thrSpeedLoX10 P.thrSpeedHiX10 P.thrRampUpDefault P.thrRampUpMin
        rampDown := lerp s.sensor.wheelSpeedX10 P.thrSpeedLoX10 P.thrSpeedHiX10 P.thrRampDownDefault
          P.thrRampDownMin } :=
  if_pos h

theorem overlayThrottle_yields {P : Params} {s : State} (h : throttleCurrent P s ≤ s.a.iTarget) :
    overlayThrottle P s = s :=
  if_neg h.not_gt

/-- The greater of the two requests is kept: the throttle only adds (R263). -/
theorem overlayThrottle_iTarget (P : Params) (s : State) :
    (overlayThrottle P s).a.iTarget = max s.a.iTarget (throttleCurrent P s) := by
  rcases Nat.lt_or_ge s.a.iTarget (throttleCurrent P s) with hover | hunder
  · rw [overlayThrottle_overrides hover, max_eq_right hover.le]
    rfl
  · rw [overlayThrottle_yields hunder, max_eq_left hunder]

section Temp
variable (P : Params) (s : State)

/-- The temperature overlay writes its filter and the request, not the duty or the ramps (R265). -/
theorem overlayTemp_eq : overlayTemp P s =
    (s.setFilt { s.filt with tempAcc := (overlayTemp P s).filt.tempAcc, tempX10 := (overlayTemp P s).filt.tempX10 }).setA
      { s.a with iTarget := (overlayTemp P s).a.iTarget } := rfl

theorem overlayTemp_tempAcc :
    (overlayTemp P s).filt.tempAcc = s.filt.tempAcc - s.filt.tempAcc / 8 + s.inp.adcAux.toNat := rfl

theorem overlayTemp_tempX10 :
    (overlayTemp P s).filt.tempX10 = (((overlayTemp P s).filt.tempAcc / 8) * P.tempNum) / P.tempDen := rfl

variable {s}

theorem overlayTemp_iTarget_of_badLimits (h : s.csr.tempMax.toNat ≤ s.csr.tempMin.toNat) :
    (overlayTemp P s).a.iTarget = 0 :=
  if_pos (BitVec.le_def.mpr h)

theorem overlayTemp_iTarget_of_limits (h : s.csr.tempMin.toNat < s.csr.tempMax.toNat) :
    (overlayTemp P s).a.iTarget = lerp (overlayTemp P s).filt.tempX10 (s.csr.tempMin.toNat * 10)
      (s.csr.tempMax.toNat * 10) s.a.iTarget 0 :=
  if_neg (BitVec.not_le.mpr (BitVec.lt_def.mpr h))

variable (s)

theorem overlayTemp_iTarget_le : (overlayTemp P s).a.iTarget ≤ s.a.iTarget := by
  rcases Nat.lt_or_ge s.csr.tempMin.toNat s.csr.tempMax.toNat with hlimits | hbad
  · rw [overlayTemp_iTarget_of_limits P hlimits]
    exact lerp_le le_rfl (Nat.zero_le _)
  · rw [overlayTemp_iTarget_of_badLimits P hbad]
    exact Nat.zero_le _

end Temp

/-! ### The speed limiter -/

section Speedlim
variable {s : State}

theorem speedlim_unlimited (h : s.csr.maxSpeedKmh = 0) : speedlim s = s.setStage 6 :=
  congrArg (State.setStage · 6) (if_neg (not_not_intro h))

theorem speedlim_iTarget_of_limit (h : s.csr.maxSpeedKmh ≠ 0) : (speedlim s).a.iTarget =
    lerp s.sensor.wheelSpeedX10 (s.csr.maxSpeedKmh.toNat * 10 - 20) (s.csr.maxSpeedKmh.toNat * 10 + 20)
      s.a.iTarget 0 := by
  rw [speedlim, limitSpeed, if_pos h]
  rfl

variable (s)

theorem speedlim_iTarget_le : (speedlim s).a.iTarget ≤ s.a.iTarget := by
  by_cases hlimit : s.csr.maxSpeedKmh = 0
  · rw [speedlim_unlimited hlimit]
    exact le_rfl
  · rw [speedlim_iTarget_of_limit hlimit]
    exact lerp_le le_rfl (Nat.zero_le _)

theorem speedlim_rxByte (k : Nat) : (speedlim s).rxByte k = s.rxByte k :=
  congrArg (Memory.read k) (Safety.speedlim_writes s).buffer

end Speedlim

end Sys2Proof.Machine

namespace Sys2Proof.Safety
open Sys2Proof.Machine

/-- Settles O8: every overlay code decodes, to the operation OVERLAY dispatches to. -/
theorem overlayExecutesOverlayCode : Obligations.OverlayExecutesOverlayCode := fun s =>
  ⟨_, _, rfl, exec_ovlInstr (ovlOf (ovlBits s.csr.optFunction)) s, exec_overlay s⟩

/-- Settles O38: the two sides of the comparison, with the throttle's current as the plain quotient. -/
theorem throttleOverlay : Obligations.ThrottleOverlay := by
  intro s
  refine ⟨overlayThrottle Config.P s, rfl, ?_, overlayDispatch_rxByte _ .throttle s⟩
  rw [← throttleCurrent_eq]
  exact ⟨overlayThrottle_overrides, overlayThrottle_yields⟩

/-- Settles O39: the two registers of the filter, and the two orders of the limits. -/
theorem tempOverlay : Obligations.TempOverlay := fun s =>
  ⟨overlayTemp Config.P s, rfl, overlayTemp_eq .., overlayTemp_tempAcc .., overlayTemp_tempX10 ..,
    overlayTemp_iTarget_of_badLimits _, overlayTemp_iTarget_of_limits _, overlayDispatch_rxByte _ .temp s⟩

/-- Settles O40: no limit, and a limit. -/
theorem speedLimiter : Obligations.SpeedLimiter := by
  refine fun s => ⟨speedlim s, rfl, speedlim_eq s, fun hnone => ?_, fun hlimit => ?_, speedlim_rxByte s⟩
  · rw [speedlim_unlimited (BitVec.eq_of_toNat_eq hnone)]
    rfl
  · exact speedlim_iTarget_of_limit fun hzero => hlimit (congrArg BitVec.toNat hzero)

/-- Settles O41: the band below, at its centre, above, and before its upper end. -/
theorem speedLimiterBand : Obligations.SpeedLimiterBand := by
  intro s t hrun
  obtain rfl := Host.Outcome.next.inj hrun
  refine ⟨speedlim_iTarget_le s, fun hnone => ?_, fun hlimit => ?_⟩
  · rw [speedlim_unlimited hnone]
    rfl
  rw [speedlim_iTarget_of_limit hlimit]
  refine ⟨fun hbelow => ?_, fun hmin hcentre => ?_, fun habove => ?_, fun hbefore hrequest => ?_⟩
  · exact lerp_low (Nat.le_sub_of_add_le hbelow)
  · rw [hcentre]
    exact lerp_centre_of_le s.a.iTarget (by decide) (Nat.mul_le_mul_right 10 hmin)
  · exact lerp_high (by omega) habove
  · exact (lerp_derate_pos hbefore (Nat.pos_of_ne_zero hrequest)).ne'

/-- Settles O42: both stages keep the request within the ceiling; of the operations, only the throttle can raise it. -/
theorem overlaysKeepTheCeiling : Obligations.OverlaysKeepTheCeiling := by
  intro s t hs
  refine ⟨fun hrun => ?overlay, fun hrun => ?speedlim, fun hrun => ?temp, fun hrun => ?throttle⟩ <;>
    obtain rfl := Host.Outcome.next.inj hrun
  case overlay => exact ⟨overlay_request hs, (overlay_keeps_ceiling Config.P s).left⟩
  case speedlim => exact ⟨speedlim_request hs, (speedlim_keeps_ceiling s).left, speedlim_iTarget_le s⟩
  case temp => exact overlayTemp_iTarget_le Config.P s
  case throttle =>
    rw [overlayThrottle_iTarget]
    exact ⟨le_max_left _ _, max_le hs (throttleCurrent_le Config.P s)⟩

end Sys2Proof.Safety
end

section
/-! SUPPORT. ARBITER: which transition the motor enable state machine takes, and the tuple committed after it
(spec/45_arbiter_enable_fsm.md R280 to R289). -/

namespace Sys2Proof.Machine

/-! ### The motor enable state machine -/

theorem stopCond_iff (s : State) : stopCond s = true ↔
    s.sensor.motorErps = 0 ∧ s.a.iTarget = 0 ∧ s.inp.dutyNow = 0 := by
  simp [stopCond, and_assoc]

theorem startCond_iff (s : State) : startCond s = true ↔
    s.sensor.motorErps < 50 ∧ s.a.iTarget ≠ 0 ∧ s.inp.brake = false := by
  simp [startCond, and_assoc]

section Transitions
variable {P : Params} {s : State}

theorem enableFsm_stop (h : s.flags.motorEnabled = true ∧ stopCond s = true) : enableFsm P s = disableMotor s := by
  obtain ⟨hen, hstop⟩ := h
  rw [enableFsm, if_pos hen, if_pos hstop]

theorem enableFsm_start (h : s.flags.motorEnabled = false ∧ startCond s = true) :
    enableFsm P s = enableMotor P s := by
  obtain ⟨hen, hstart⟩ := h
  rw [enableFsm, if_neg (Bool.eq_false_iff.mp hen), if_pos hstart]

theorem enableFsm_hold (hstop : ¬ (s.flags.motorEnabled = true ∧ stopCond s = true))
    (hstart : ¬ (s.flags.motorEnabled = false ∧ startCond s = true)) : enableFsm P s = s := by
  cases hen : s.flags.motorEnabled with
  | true => rw [enableFsm, if_pos hen, if_neg fun h => hstop ⟨hen, h⟩]
  | false => rw [enableFsm, if_neg (Bool.eq_false_iff.mp hen), if_neg fun h => hstart ⟨hen, h⟩]

/-- After the state machine ARBITER only commits a tuple and moves on (R280). -/
theorem arbiter_eq_enableFsm (P : Params) (s : State) : arbiter P s =
    ((enableFsm P (clearArbiterStrobes s)).setDrv (arbiter P s).drv).setStage 7 := by
  unfold arbiter inhibitOrCommit
  split_ifs <;> rfl

/-- The clean stop (R283): its condition reads nothing that clearing the strobes writes. -/
theorem arbiter_stop (h : s.flags.motorEnabled = true ∧ stopCond s = true) : arbiter P s =
    ((disableMotor (clearArbiterStrobes s)).setDrv (arbiter P s).drv).setStage 7 :=
  (arbiter_eq_enableFsm P s).trans (by rw [enableFsm_stop (s := clearArbiterStrobes s) h])

/-- The start (R284), decided on the request the speed limiter left (R281). -/
theorem arbiter_start (h : s.flags.motorEnabled = false ∧ startCond s = true) : arbiter P s =
    ((enableMotor P (clearArbiterStrobes s)).setDrv (arbiter P s).drv).setStage 7 :=
  (arbiter_eq_enableFsm P s).trans (by rw [enableFsm_start (s := clearArbiterStrobes s) h])

/-- The hold (R285) leaves only the strobes' defaults. -/
theorem arbiter_hold (hstop : ¬ (s.flags.motorEnabled = true ∧ stopCond s = true))
    (hstart : ¬ (s.flags.motorEnabled = false ∧ startCond s = true)) : arbiter P s =
    ((clearArbiterStrobes s).setDrv (arbiter P s).drv).setStage 7 :=
  (arbiter_eq_enableFsm P s).trans (by rw [enableFsm_hold (s := clearArbiterStrobes s) hstop hstart])

/-- Only the start drives the duty seed (R284). -/
theorem arbiter_dutySeed (hstart : ¬ (s.flags.motorEnabled = false ∧ startCond s = true)) :
    (arbiter P s).out.dutySeed = s.out.dutySeed := by
  by_cases hstop : s.flags.motorEnabled = true ∧ stopCond s = true
  · rw [arbiter_stop hstop]; rfl
  · rw [arbiter_hold hstop hstart]; rfl

/-- The request is written only by the start, which sets the flag (R284). -/
theorem arbiter_a_of_flag_kept (h : (arbiter P s).flags.motorEnabled = s.flags.motorEnabled) :
    (arbiter P s).a = s.a := by
  by_cases hstart : s.flags.motorEnabled = false ∧ startCond s = true
  · have hset : (arbiter P s).flags.motorEnabled = true := by rw [arbiter_start hstart]; rfl
    exact absurd (hset.symm.trans (h.trans hstart.left)) (by decide)
  · by_cases hstop : s.flags.motorEnabled = true ∧ stopCond s = true
    · rw [arbiter_stop hstop]; rfl
    · rw [arbiter_hold hstop hstart]; rfl

end Transitions

/-! ### The commit -/

/-- The commit writes nothing that its clamps or the inhibit test read, so both can be read off the state ARBITER
leaves (R286 to R289). -/
theorem arbiter_drv_of_not_inhibit {P : Params} {s : State} (h : ¬ inhibit (arbiter P s) = true) :
    (arbiter P s).drv = (commitClamped P (arbiter P s)).drv := by
  unfold arbiter inhibitOrCommit at h ⊢
  split_ifs at h ⊢ with hi
  · exact absurd hi h
  · rfl

theorem arbiter_dutyTarget (P : Params) (s : State) : (arbiter P s).a.dutyTarget = s.a.dutyTarget := by
  rw [arbiter_eq]; rfl

theorem arbiter_rxByte (P : Params) (s : State) (k : Nat) : (arbiter P s).rxByte k = s.rxByte k :=
  congrArg (Memory.read k) (Safety.arbiter_writes P s).buffer

end Sys2Proof.Machine

namespace Sys2Proof.Safety
open Sys2Proof.Machine

/-- Settles O43: the three transitions, and what every one of them keeps. -/
theorem enableStateMachine : Obligations.EnableStateMachine := by
  refine fun s => ⟨arbiter Config.P s, rfl, ?transitions, ?ports, ?frame, arbiter_rxByte Config.P s⟩
  case transitions =>
    dsimp only
    rw [← stopCond_iff, ← startCond_iff]
    refine ⟨fun hstop => ?_, fun hstart => ?_, fun hstop hstart => ?_, arbiter_dutySeed⟩
    · rw [arbiter_stop hstop]; exact ⟨rfl, rfl, rfl, rfl, rfl, rfl⟩
    · rw [arbiter_start hstart]; exact ⟨rfl, rfl, rfl, rfl, rfl, rfl, rfl⟩
    · rw [arbiter_hold hstop hstart]; exact ⟨rfl, rfl, rfl, rfl, rfl, rfl⟩
  all_goals
    obtain ⟨b, m, n, d, o, e⟩ := arbiter_exists Config.P s
    rw [e]
  case ports => exact ⟨rfl, rfl, rfl⟩
  case frame => rfl

/-- Settles O44: the causes of the inhibit are as ARBITER leaves them, and so is what the clamps read. -/
theorem arbiterCommits : Obligations.ArbiterCommits := by
  intro s
  obtain ⟨hreq, hmax, hcsr, _⟩ := arbiter_request_and_ceiling Config.P s
  have hinp : (arbiter Config.P s).inp = s.inp := ((arbiter_writes Config.P s).sample (by decide)).left
  refine ⟨arbiter Config.P s, rfl, ?_, ?_, hreq, arbiter_dutyTarget Config.P s, arbiter_a_of_flag_kept⟩ <;>
    rw [← hinp, ← hcsr]
  · exact arbiter_inhibitedIsSafe Config.P s (.inl rfl)
  · rw [← hmax, ← inhibit_iff]
    exact arbiter_drv_of_not_inhibit

end Sys2Proof.Safety
end

section
/-! SUPPORT. HEALTH: what the motor-blocked detector does in a tick and over the ticks, and when the torque-sensor
level is set (spec/46_health_monitor.md R312 to R318). -/

namespace Sys2Proof.Machine

/-! ### The motor-blocked detector in one tick -/

theorem mbCond_iff (s : State) : mbCond s = true ↔ 50 < s.sensor.ibatX10 ∧ s.sensor.motorErps < 10 := by
  simp [mbCond]

/-- What HEALTH does after the motor-blocked detector touches neither its latch nor a counter. -/
theorem health_of_detectMotorBlocked {s d : State} (h : detectMotorBlocked s = d) :
    (health s).flags.mbFault = d.flags.mbFault ∧ (health s).cnt = d.cnt := by
  subst h
  exact ⟨rfl, rfl⟩

section Tick
variable {s : State}

theorem health_latches (hclear : s.flags.mbFault = false) (hcond : mbCond s = true) (hlast : s.cnt.mbCount + 1 = 10) :
    (health s).flags.mbFault = true ∧ (health s).cnt = { s.cnt with mbCount := 0, mbResetCount := 0 } :=
  health_of_detectMotorBlocked (d := raiseMotorBlocked s) <| by
    rw [detectMotorBlocked, if_neg (Bool.eq_false_iff.mp hclear), if_pos hcond]
    exact if_pos hlast

theorem health_counts (hclear : s.flags.mbFault = false) (hcond : mbCond s = true) (hearly : s.cnt.mbCount + 1 ≠ 10) :
    (health s).flags.mbFault = false ∧ (health s).cnt = { s.cnt with mbCount := s.cnt.mbCount + 1 } := by
  rw [← hclear]
  refine health_of_detectMotorBlocked (d := s.setCnt { s.cnt with mbCount := s.cnt.mbCount + 1 }) ?_
  rw [detectMotorBlocked, if_neg (Bool.eq_false_iff.mp hclear), if_pos hcond]
  exact if_neg hearly

theorem health_restarts (hclear : s.flags.mbFault = false) (hcond : ¬ mbCond s = true) :
    (health s).flags.mbFault = false ∧ (health s).cnt = { s.cnt with mbCount := 0 } := by
  rw [← hclear]
  refine health_of_detectMotorBlocked (d := s.setCnt { s.cnt with mbCount := 0 }) ?_
  rw [detectMotorBlocked, if_neg (Bool.eq_false_iff.mp hclear), if_neg hcond]

theorem health_expires (hfault : s.flags.mbFault = true) (hlast : s.cnt.mbResetCount + 1 = 100) :
    (health s).flags.mbFault = false ∧ (health s).cnt = { s.cnt with mbCount := 0, mbResetCount := 0 } :=
  health_of_detectMotorBlocked (d := clearMotorBlocked s) <| by
    rw [detectMotorBlocked, if_pos hfault]
    exact if_pos hlast

theorem health_holds (hfault : s.flags.mbFault = true) (hearly : s.cnt.mbResetCount + 1 ≠ 100) :
    (health s).flags.mbFault = true ∧ (health s).cnt = { s.cnt with mbResetCount := s.cnt.mbResetCount + 1 } := by
  rw [← hfault]
  refine health_of_detectMotorBlocked (d := s.setCnt { s.cnt with mbResetCount := s.cnt.mbResetCount + 1 }) ?_
  rw [detectMotorBlocked, if_pos hfault]
  exact if_neg hearly

end Tick

/-! ### The torque-sensor level and the code -/

theorem consumesTorque_iff (m : Mode) : consumesTorque m = true ↔ m = .power ∨ m = .torque ∨ m = .emtb := by
  cases m <;> decide

theorem tsCond_iff (s : State) : tsCond s = true ↔
    (modeOf s.csr.mode = .power ∨ modeOf s.csr.mode = .torque ∨ modeOf s.csr.mode = .emtb) ∧
    (s.filt.torqueOffset < 10 ∨ 300 < s.filt.torqueOffset ∨ 500 < s.sensor.torqueAdc) := by
  rw [← consumesTorque_iff]
  simp [tsCond, or_assoc]

/-- MotorBlocked comes first in the code (R318). -/
theorem health_fault_of_mbFault {s : State} (h : (health s).flags.mbFault = true) : (health s).csr.fault = 1 :=
  (Safety.health_faultCodeAgrees s).trans (if_pos h)

theorem health_rxByte (s : State) (k : Nat) : (health s).rxByte k = s.rxByte k :=
  congrArg (Memory.read k) (Safety.health_writes s).buffer

/-! ### The motor-blocked detector over successive ticks -/

/-- HEALTH of tick n takes `s n` to `u n`, and tick n + 1 finds the latch and the two counters as tick n left them. -/
structure HealthTicks (s u : Nat → State) : Prop where
  run : ∀ n, u n = health (s n)
  mbFault : ∀ n, (s (n + 1)).flags.mbFault = (u n).flags.mbFault
  mbCount : ∀ n, (s (n + 1)).cnt.mbCount = (u n).cnt.mbCount
  mbResetCount : ∀ n, (s (n + 1)).cnt.mbResetCount = (u n).cnt.mbResetCount

namespace HealthTicks

variable {s u : Nat → State} {n : Nat}

/-- While the condition holds the k-th further tick finds the latch clear and k ticks counted. -/
theorem counted (h : HealthTicks s u) (hclear : (s n).flags.mbFault = false) (hzero : (s n).cnt.mbCount = 0) :
    ∀ k, k < 10 → (∀ j, j < k → mbCond (s (n + j)) = true) →
      (s (n + k)).flags.mbFault = false ∧ (s (n + k)).cnt.mbCount = k := by
  intro k
  induction k with
  | zero => exact fun _ _ => ⟨hclear, hzero⟩
  | succ k ih =>
    intro hk hcond
    obtain ⟨hflag, hcount⟩ := ih (by omega) fun j hj => hcond j (by omega)
    obtain ⟨hflag', hcnt'⟩ := health_counts hflag (hcond k (by omega)) (by omega)
    rw [← add_assoc, h.mbFault, h.mbCount, h.run, hcnt']
    exact ⟨hflag', congrArg (· + 1) hcount⟩

/-- The k-th tick after the one that latched leaves the fault latched and k ticks counted, whatever the condition. -/
theorem lasts (h : HealthTicks s u) (hfault : (u n).flags.mbFault = true) (hzero : (u n).cnt.mbResetCount = 0) :
    ∀ k, k < 100 → (u (n + k)).flags.mbFault = true ∧ (u (n + k)).cnt.mbResetCount = k := by
  intro k
  induction k with
  | zero => exact fun _ => ⟨hfault, hzero⟩
  | succ k ih =>
    intro hk
    obtain ⟨hflag, hcount⟩ := ih (by omega)
    rw [← h.mbFault] at hflag
    rw [← h.mbResetCount] at hcount
    obtain ⟨hflag', hcnt'⟩ := health_holds hflag (by omega)
    rw [← add_assoc, h.run, hcnt']
    exact ⟨hflag', congrArg (· + 1) hcount⟩

/-- The hundredth tick after the one that latched clears the fault and both counters. -/
theorem expires (h : HealthTicks s u) (hfault : (u n).flags.mbFault = true) (hzero : (u n).cnt.mbResetCount = 0) :
    (u (n + 100)).flags.mbFault = false ∧ (u (n + 100)).cnt.mbCount = 0 := by
  obtain ⟨hflag, hcount⟩ := h.lasts hfault hzero 99 (by decide)
  rw [← h.mbFault] at hflag
  rw [← h.mbResetCount] at hcount
  obtain ⟨hflag', hcnt'⟩ := health_expires hflag (by omega)
  rw [h.run (n + 100), hcnt']
  exact ⟨hflag', rfl⟩

end HealthTicks

end Sys2Proof.Machine

namespace Sys2Proof.Safety
open Sys2Proof.Machine

/-- Settles O21: the five cases of the detector, and the frame of HEALTH. -/
theorem healthMotorBlocked : Obligations.HealthMotorBlocked := by
  intro s
  rw [← mbCond_iff]
  refine ⟨health s, rfl, health_latches, health_counts, health_restarts, health_expires, health_holds, ?_,
    health_rxByte s⟩
  obtain ⟨b, c, m, n, x, e⟩ := health_exists s
  rw [e]
  rfl

/-- Settles O23: nine ticks count, the tenth latches, and from there the fault runs its hundred ticks. -/
theorem motorBlockedTiming : Obligations.MotorBlockedTiming := by
  intro s u hrun hand n hclear hzero hcond
  have ticks : HealthTicks s u :=
    { run := fun n => (Host.Outcome.next.inj (hrun n)).symm
      mbFault := fun n => (hand n).left
      mbCount := fun n => (hand n).right.left
      mbResetCount := fun n => (hand n).right.right }
  have blocked : ∀ k, k < 10 → mbCond (s (n + k)) = true := fun k hk => (mbCond_iff _).mpr (hcond k hk)
  have counted : ∀ k, k < 10 → (s (n + k)).flags.mbFault = false ∧ (s (n + k)).cnt.mbCount = k :=
    fun k hk => ticks.counted hclear hzero k hk fun j hj => blocked j (by omega)
  have latched : (u (n + 9)).flags.mbFault = true ∧ (u (n + 9)).cnt.mbResetCount = 0 := by
    obtain ⟨hflag, hcount⟩ := counted 9 (by decide)
    obtain ⟨hflag', hcnt'⟩ := health_latches hflag (blocked 9 (by decide)) (by omega)
    rw [ticks.run, hcnt']
    exact ⟨hflag', rfl⟩
  obtain ⟨hfault, hreset⟩ := latched
  refine ⟨fun k hk => ?_, fun k hk => ?_, ticks.expires hfault hreset⟩
  · obtain ⟨hflag, hcount⟩ := counted (k + 1) (by omega)
    exact ⟨(ticks.mbFault (n + k)).symm.trans hflag, (ticks.mbCount (n + k)).symm.trans hcount⟩
  · obtain ⟨hflag, hcount⟩ := ticks.lasts hfault hreset k hk
    refine ⟨hflag, ?_, hcount⟩
    rw [ticks.run] at hflag ⊢
    exact health_fault_of_mbFault hflag

/-- Settles O22: the level is the condition of the state HEALTH finds, and the code is the view of the latches it
leaves. -/
theorem healthFaultCode : Obligations.HealthFaultCode := by
  intro s
  refine ⟨health s, rfl, ?_, health_faultCodeAgrees s⟩
  rw [health_tsFault, tsCond_iff]

end Sys2Proof.Safety
end

section
/-! SUPPORT. The sequencer: what IDLE does with the next event, how each step moves the stage, and the eight steps of
one tick (spec/47_sequencer_host.md R330 to R333). -/

namespace Sys2Proof.Machine

/-! ### IDLE -/

/-- On a tick the ports are sampled and the strobes of the last tick end (spec/00_scope.md R13). -/
theorem idle_of_tick {s : State} {inp : Inputs} {es : List Event} (henv : s.env = .tick inp :: es) :
    idle s = (clearStrobes ((s.setEnv es).setInp inp)).setStage 1 := by
  rw [idle, henv]

theorem idle_of_no_tick {s : State} (hwait : ∀ inp es, s.env ≠ .tick inp :: es) : idle s = s := by
  unfold idle
  split
  case h_1 inp es henv => exact absurd henv (hwait inp es)
  all_goals rfl

/-! ### The stage after a step -/

theorem stageInstr_ne_idle {b : BitVec 3} (hb : b ≠ 0) : stageInstr b ≠ .idle := by
  revert b
  decide

theorem stageInstr_ne_comm {b : BitVec 3} (hb : b ≠ 7) : stageInstr b ≠ .comm := by
  revert b
  decide

/-- Every stage operation but IDLE sets the next stage code, whatever stage it is executed at (R332). -/
theorem exec_stageInstr_stage {b : BitVec 3} {s t : State} (hb : b ≠ 0) (h : exec (stageInstr b) s = .next t) :
    t.stage = b + 1 := by
  rcases fetch_cases (s.setStage b) with ⟨hs, _⟩ | ⟨hs, _⟩ | ⟨hs, _⟩ | ⟨hs, _⟩ | ⟨hs, _⟩ | ⟨hs, _⟩ | ⟨hs, _⟩ | ⟨hs, _⟩
  · exact absurd hs hb
  all_goals
    rw [setStage_stage] at hs
    subst hs
    obtain rfl := Host.Outcome.next.inj h
    rfl

/-- Between ticks an agent leaves the block between ticks (spec/20_memory.md R73). -/
theorem agentStep_stage (P : Params) (e : Event) {s : State} (h0 : s.stage = 0) : (agentStep P e s).stage = 0 := by
  rcases agentStep_exists P e s with h | ⟨m, b, x, n, _, h⟩ <;> rw [h]
  · rfl
  · exact h0

/-- Between ticks, with no tick to begin, a step is an agent's or waits. -/
theorem step_stage_of_no_tick {s t : State} (h : step s = .next t) (h0 : s.stage = 0)
    (hwait : ∀ inp es, s.env ≠ .tick inp :: es) : t.stage = 0 := by
  rcases step_cases h with ⟨e, _, rfl⟩ | ⟨_, hexec⟩
  · exact agentStep_stage _ e h0
  · rw [fetch, h0] at hexec
    obtain rfl := Host.Outcome.next.inj hexec
    rw [idle_of_no_tick hwait]
    exact h0

/-! ### The eight steps of a tick -/

/-- The block at stage `b` of a tick on the sample `inp`, with the events `es` to come and the exchange phase `m`. -/
structure AtStage (b : BitVec 3) (inp : Inputs) (es : List Event) (m : BitVec 2) (s : State) : Prop where
  stage : s.stage = b
  sample : s.inp = inp
  events : s.env = es
  phase : s.tickMod4 = m

section Tick
variable {b : BitVec 3} {inp : Inputs} {es : List Event} {m : BitVec 2} {s : State}

/-- The first step of a tick: no agent is due, so IDLE takes the sample (R330). -/
theorem step_tick (h0 : s.stage = 0) (henv : s.env = .tick inp :: es) :
    ∃ t, exec .idle s = .next t ∧ step s = .next t ∧ AtStage 1 inp es s.tickMod4 t := by
  have quiet : dueAgent s = none := dueAgent_eq_none (.inr (.inr ⟨inp, es, henv⟩))
  have hfetch : fetch s = .idle := by rw [fetch, h0]; rfl
  refine ⟨idle s, rfl, by rw [step_of_dueAgent_none quiet, hfetch]; rfl, ?_⟩
  rw [idle_of_tick henv]
  exact ⟨rfl, rfl, rfl, rfl⟩

/-- A step inside a tick is the stage's operation, which keeps the sample and the events to come
(spec/10_state.md R22). -/
theorem AtStage.step_exec (h : AtStage b inp es m s) (hb : b ≠ 0) :
    ∃ t, exec (stageInstr b) s = .next t ∧ step s = .next t ∧ AtStage (b + 1) inp es t.tickMod4 t := by
  obtain ⟨t, hexec⟩ := exec_answers_next (stageInstr b) s
  obtain ⟨hinp, henv⟩ := (Safety.exec_writes hexec).sample (stageInstr_ne_idle hb)
  have hstep : step s = exec (stageInstr b) s := by
    rw [step_of_stage_ne_zero (h.stage ▸ hb), fetch, h.stage]
  exact ⟨t, hexec, hstep.trans hexec, exec_stageInstr_stage hb hexec, hinp.trans h.sample, henv.trans h.events, rfl⟩

/-- The stages from SENSE to ARBITER keep the exchange phase. -/
theorem AtStage.step_before_comm (h : AtStage b inp es m s) (hb : b ≠ 0) (hcomm : b ≠ 7) :
    ∃ t, exec (stageInstr b) s = .next t ∧ step s = .next t ∧ AtStage (b + 1) inp es m t := by
  obtain ⟨t, hexec, hstep, ht⟩ := h.step_exec hb
  obtain ⟨_, _, _, _, hphase, _⟩ := (Safety.exec_writes hexec).transport (stageInstr_ne_comm hcomm)
  exact ⟨t, hexec, hstep, { ht with phase := hphase.trans h.phase }⟩

/-- COMM ends the tick and moves the exchange phase on (R340). -/
theorem AtStage.step_comm (h : AtStage 7 inp es m s) :
    ∃ t, exec .comm s = .next t ∧ step s = .next t ∧ AtStage 0 inp es (m + 1) t := by
  obtain ⟨t, hexec, hstep, ht⟩ := h.step_exec (by decide)
  refine ⟨t, hexec, hstep, { ht with phase := ?_ }⟩
  obtain rfl := Host.Outcome.next.inj hexec
  rw [comm_eq, ← h.phase]
  rfl

end Tick

end Sys2Proof.Machine

namespace Sys2Proof.Safety
open Sys2Proof.Machine

/-- Settles O10: by whether the next event is a tick. -/
theorem idleWaitsOrSamples : Obligations.IdleWaitsOrSamples := by
  refine fun s => ⟨fun hwait => ?_, fun inp es henv => ⟨_, exec_idle s, ?_⟩⟩
  · rw [exec_idle, idle_of_no_tick hwait]
  · rw [idle_of_tick henv]
    exact ⟨rfl, rfl, fun _ => rfl⟩

/-- Settles O11: within a tick by the operation fetched, between ticks by whether a tick comes. -/
theorem stageAdvances : Obligations.StageAdvances := by
  intro s t h
  refine ⟨fun h0 => ?_, fun h0 ⟨inp, es, henv⟩ => ?_, step_stage_of_no_tick h⟩
  · rw [step_of_stage_ne_zero h0] at h
    exact exec_stageInstr_stage h0 h
  · obtain ⟨u, _, hstep, hu⟩ := step_tick h0 henv
    obtain rfl := Host.Outcome.next.inj (h.symm.trans hstep)
    exact hu.stage

/-- Settles O13: from stage to stage, each step executing the operation of its code. -/
theorem tickIsEightSteps : Obligations.TickIsEightSteps := by
  intro s inp es h0 henv
  obtain ⟨s1, e1, r1, h1⟩ := step_tick h0 henv
  obtain ⟨s2, e2, r2, h2⟩ := h1.step_before_comm (by decide) (by decide)
  obtain ⟨s3, e3, r3, h3⟩ := h2.step_before_comm (by decide) (by decide)
  obtain ⟨s4, e4, r4, h4⟩ := h3.step_before_comm (by decide) (by decide)
  obtain ⟨s5, e5, r5, h5⟩ := h4.step_before_comm (by decide) (by decide)
  obtain ⟨s6, e6, r6, h6⟩ := h5.step_before_comm (by decide) (by decide)
  obtain ⟨s7, e7, r7, h7⟩ := h6.step_before_comm (by decide) (by decide)
  obtain ⟨s8, e8, r8, h8⟩ := h7.step_comm
  refine ⟨s1, s2, s3, s4, s5, s6, s7, s8, e1, e2, e3, e4, e5, e6, e7, e8, h1.sample, h8.sample, h8.events, h8.stage,
    h8.phase, ?_⟩
  calc core.run 8 s = core.run 7 s1 := run_succ_of_step (M := core) r1 7
    _ = core.run 6 s2 := run_succ_of_step (M := core) r2 6
    _ = core.run 5 s3 := run_succ_of_step (M := core) r3 5
    _ = core.run 4 s4 := run_succ_of_step (M := core) r4 4
    _ = core.run 3 s5 := run_succ_of_step (M := core) r5 3
    _ = core.run 2 s6 := run_succ_of_step (M := core) r6 2
    _ = core.run 1 s7 := run_succ_of_step (M := core) r7 1
    _ = core.run 0 s8 := run_succ_of_step (M := core) r8 0
    _ = .next s8 := rfl

end Sys2Proof.Safety
end

section
/-! SUPPORT. COMM: what is received, what is sent and what the loss count does, with and without an accepted frame, and
the record (spec/47_sequencer_host.md R340 to R346). -/

namespace Sys2Proof.Machine

/-! ### The parts of COMM -/

/-- The first thing COMM does: the strobe of the Hall outputs ends (R340). -/
def clearHallStrobe (s : State) : State := s.setOut { s.out with hallCfgValid := false }

section Parts
variable {P : Params} {s : State}

theorem exchange_due (hphase : s.tickMod4 = 3) : exchange P s = (send P (receive P s).1, (receive P s).2) :=
  if_pos hphase

theorem exchange_not_due (hphase : s.tickMod4 ≠ 3) : exchange P s = (s, false) := if_neg hphase

/-- COMM after its exchange: the loss detector, then the next tick of the exchange's four and stage IDLE (R340). -/
theorem comm_of_exchange {t : State} {accepted : Bool} (h : exchange P (clearHallStrobe s) = (t, accepted)) :
    comm P s = ((detectLoss P accepted t).setTickMod4 (s.tickMod4 + 1)).setStage 0 := by
  have hstart : comm P s =
      ((detectLoss P accepted t).setTickMod4 ((detectLoss P accepted t).tickMod4 + 1)).setStage 0 := by
    have parts : exchange P (s.setOut { s.out with hallCfgValid := false }) = (t, accepted) := h
    simp only [comm, parts]
  have hphase := congrArg State.tickMod4 (comm_eq P s)
  rw [hstart] at hphase ⊢
  simp only [setStage_tickMod4, setTickMod4_tickMod4] at hphase
  rw [hphase]

/-- A pending frame that is accepted is consumed and applied (R341, R344). -/
theorem receive_of_accepted {k : MsgId} {f : FrameArgs} (hready : s.flags.frameReady = true)
    (hok : acceptFrame P (rxFrame s) = .ok (k, f)) : receive P s = (applyFrame P k f (consumeFrame s), true) := by
  rw [receive, if_pos hready, hok]

/-- With no acceptable frame pending, no frame is pending afterwards and nothing else changes (R341). -/
theorem receive_of_no_frame (h : s.flags.frameReady = true → ¬ Safety.Acceptable P (rxFrame s)) :
    receive P s = (consumeFrame s, false) := by
  cases hready : s.flags.frameReady with
  | true => exact receive_of_not_acceptable (h hready)
  | false =>
    have consumed : consumeFrame s = s := by rw [consumeFrame, ← hready, setFlags_self]
    rw [receive, hready, consumed]
    rfl

/-- An exchange applies the frame first and then sends (R340). -/
theorem exchange_of_accepted {k : MsgId} {f : FrameArgs} (hphase : s.tickMod4 = 3) (hready : s.flags.frameReady = true)
    (hok : acceptFrame P (rxFrame s) = .ok (k, f)) :
    exchange P s = (send P (applyFrame P k f (consumeFrame s)), true) := by
  rw [exchange_due hphase, receive_of_accepted hready hok]

/-- An exchange that accepts no frame consumes a pending one and sends (R341, R342). -/
theorem exchange_of_no_frame (hphase : s.tickMod4 = 3)
    (h : s.flags.frameReady = true → ¬ Safety.Acceptable P (rxFrame s)) :
    exchange P s = (send P (consumeFrame s), false) := by
  rw [exchange_due hphase, receive_of_no_frame h]

/-- A send by whether bytes are in flight, as one update of what it writes (R342). -/
theorem send_exists (P : Params) (s : State) : ∃ r x d,
    (s.txCount = 0 → x = 29 ∧ r.body = txBody s) ∧
    (s.txCount ≠ 0 → x = s.txCount ∧ r = s.txRec ∧ d = s.draws) ∧
    send P s = ((s.setTxRec r).setTxCount x).setDraws d := by
  rcases send_cases P s with ⟨hbusy, e⟩ | ⟨hfree, r, e, hbody, _⟩
  · exact ⟨_, _, _, fun hfree => absurd hfree hbusy, fun _ => ⟨rfl, rfl, rfl⟩, e⟩
  · exact ⟨r, _, _, fun _ => ⟨rfl, hbody⟩, fun hbusy => absurd hfree hbusy, e⟩

/-- An accepted frame restarts the count (R346). -/
theorem detectLoss_accepted (P : Params) (s : State) :
    detectLoss P true s = s.setCnt { s.cnt with commLossCount := 0 } := rfl

end Parts

/-! ### COMM as a whole -/

section Comm
variable {P : Params} {s : State}

/-- COMM at an exchange that accepts a frame. -/
theorem comm_of_accepted {k : MsgId} {f : FrameArgs} (hphase : s.tickMod4 = 3) (hready : s.flags.frameReady = true)
    (hok : acceptFrame P (rxFrame s) = .ok (k, f)) : comm P s =
      (((send P (applyFrame P k f (consumeFrame (clearHallStrobe s)))).setCnt
        { s.cnt with commLossCount := 0 }).setTickMod4 0).setStage 0 := by
  have hexch := exchange_of_accepted (s := clearHallStrobe s) hphase hready hok
  rw [comm_of_exchange hexch, detectLoss_accepted, hphase, send_eq, applyFrame_frame]
  rfl

/-- COMM when its exchange, if there is one, accepts no frame and so leaves the registers and counters as they are: the
loss count goes on to its limit, where c0 is forced to Off (R346). -/
theorem comm_of_not_accepted {t : State} (h : exchange P (clearHallStrobe s) = (t, false)) (hcsr : t.csr = s.csr)
    (hcnt : t.cnt = s.cnt) : ∃ c,
    (P.commLossTicks ≤ s.cnt.commLossCount + 1 → c = { s.csr with mode := 0 }) ∧
    (s.cnt.commLossCount + 1 < P.commLossTicks → c = s.csr) ∧
    comm P s = (((t.setCnt { s.cnt with commLossCount := min (s.cnt.commLossCount + 1) P.commLossTicks }).setCsr
      c).setTickMod4 (s.tickMod4 + 1)).setStage 0 := by
  rw [comm_of_exchange h, ← hcsr, ← hcnt]
  rcases detectLoss_cases P false t with ⟨h, _⟩ | ⟨_, hlt, e⟩ | ⟨_, hle, e⟩
  · cases h
  · exact ⟨t.csr, fun hle => absurd hle (by omega), fun _ => rfl, by rw [e, min_eq_left hlt.le]; rfl⟩
  · exact ⟨_, fun _ => rfl, fun hlt => absurd hlt (by omega), by rw [e, min_eq_right hle]⟩

/-- What an exchange receives is nothing that the record it sends shows: the fields of the record are as COMM finds
them (R343). -/
theorem txBody_receive (P : Params) (s : State) : txBody (receive P s).1 = txBody s := by
  rw [receive_eq]
  rfl

/-- An exchange with nothing in flight fills the record and its CRC and starts the 29 bytes (R342, R343). -/
theorem comm_sends (hphase : s.tickMod4 = 3) (hfree : s.txCount = 0) : (comm P s).txCount = 29 ∧
    (comm P s).txRec = { body := txBody s, crc := P.crc16 (txImage (txBody s)) } := by
  have hexch := exchange_due (P := P) (s := clearHallStrobe s) hphase
  have hfree' : (receive P (clearHallStrobe s)).1.txCount = 0 := by
    rw [receive_eq]
    simpa [clearHallStrobe] using hfree
  rw [send, if_pos hfree', txBody_receive] at hexch
  rw [comm_of_exchange hexch, detectLoss_eq]
  exact ⟨rfl, rfl⟩

/-- The order in which the strobe and the flag are cleared makes no difference to the frame applied next. -/
theorem consumeFrame_clearHallStrobe (s : State) : consumeFrame (clearHallStrobe s) =
    (s.setFlags { s.flags with frameReady := false }).setOut { s.out with hallCfgValid := false } := rfl

theorem comm_rxByte (P : Params) (s : State) (k : Nat) : (comm P s).rxByte k = s.rxByte k :=
  congrArg (Memory.read k) (Safety.comm_writes P s).buffer

/-- The fields COMM writes, with no more said of them. -/
theorem comm_eq_update (P : Params) (s : State) : comm P s =
    ((((((((s.setFlags (comm P s).flags).setCnt (comm P s).cnt).setCsr (comm P s).csr).setTxRec
      (comm P s).txRec).setTxCount (comm P s).txCount).setDraws (comm P s).draws).setOut (comm P s).out).setTickMod4
      (s.tickMod4 + 1)).setStage 0 := by
  obtain ⟨c, b, n, r, x, d, v, i, p, e⟩ := comm_exists P s
  rw [e]
  rfl

end Comm

/-! ### The record -/

theorem toNat_ofNat_min {w v m : Nat} (hm : m < 2 ^ w) : (BitVec.ofNat w (min v m)).toNat = min v m := by
  rw [BitVec.toNat_ofNat, Nat.mod_eq_of_lt (by omega)]

/-- The CRC covers the bytes before it, and every record COMM fills begins with the start byte (R343,
spec/30_encoding.md R104). -/
theorem txFrame_txBody (P : Params) (s : State) (r : TxRec)
    (h : r = { body := txBody s, crc := P.crc16 (txImage (txBody s)) }) :
    r.crc = P.crc16 ((txFrame r).take 27) ∧ (txFrame r)[0]? = some 0x43 := by
  obtain ⟨htake, hstart, _, _⟩ := txFrame_bytes r
  rw [htake, hstart, h]
  exact ⟨rfl, rfl⟩

end Sys2Proof.Machine

namespace Sys2Proof.Safety
open Sys2Proof.Machine

/-- Settles O9: the frame is applied before the send, which shows none of what it wrote. -/
theorem commExecutesAcceptedFrame : Obligations.CommExecutesAcceptedFrame := by
  intro s hphase hready hacc
  obtain ⟨⟨k, f⟩, hok⟩ := (exists_acceptFrame_iff _ _).mpr hacc
  obtain ⟨hdecode, _⟩ := acceptFrame_ok_iff.mp hok
  rw [← consumeFrame_clearHallStrobe]
  refine ⟨frameInstr k f, _, _, decode_rxf_of_decodeFrame hdecode, exec_frameInstr .., exec_comm s, ?_⟩
  have hbuf := comm_rxByte Config.P s
  rw [comm_of_accepted hphase hready hok] at hbuf ⊢
  have hframe := applyFrame_frame Config.P k f (consumeFrame (clearHallStrobe s))
  generalize applyFrame Config.P k f (consumeFrame (clearHallStrobe s)) = u at hframe hbuf ⊢
  have hkept : u.flags = { s.flags with frameReady := false } ∧ u.txRec = s.txRec ∧ u.txCount = s.txCount := by
    rw [hframe]
    simp [consumeFrame, clearHallStrobe]
  obtain ⟨hflags, hrec, hcount⟩ := hkept
  obtain ⟨r, x, d, hsent, hskipped, e⟩ := send_exists Config.P u
  rw [hcount] at hsent hskipped
  rw [hrec] at hskipped
  rw [e] at hbuf ⊢
  refine ⟨by simp, by simp, by simpa using hflags, by simp, by simp, by simp, fun hbusy => ?_, by simpa using hsent,
    hbuf⟩
  obtain ⟨hx, hr, _⟩ := hskipped hbusy
  exact ⟨by simpa using hr, by simpa using hx⟩

/-- Settles O45: an exchange with and without bytes in flight, and a tick without an exchange. -/
theorem commWithoutFrame : Obligations.CommWithoutFrame := by
  intro s hframe
  refine ⟨comm Config.P s, rfl, ?_⟩
  generalize Config.P = P at hframe ⊢
  have hupdate := comm_eq_update P s
  have hbuf := comm_rxByte P s
  by_cases hphase : s.tickMod4 = 3
  · obtain ⟨r, x, d, hsent, hskipped, hsend⟩ := send_exists P (consumeFrame (clearHallStrobe s))
    have hexch := exchange_of_no_frame (P := P) (s := clearHallStrobe s) hphase (hframe hphase)
    rw [hsend] at hexch
    obtain ⟨c, hlost, hkept, e⟩ := comm_of_not_accepted hexch (by simp [consumeFrame, clearHallStrobe])
      (by simp [consumeFrame, clearHallStrobe])
    rw [e] at hupdate hbuf ⊢
    exact ⟨by simp, by simpa using hlost, by simpa using hkept,
      fun _ => ⟨by simp [consumeFrame, clearHallStrobe], hsent, hskipped⟩, absurd hphase, hupdate, hbuf⟩
  · obtain ⟨c, hlost, hkept, e⟩ := comm_of_not_accepted (exchange_not_due (s := clearHallStrobe s) hphase) rfl rfl
    rw [e] at hupdate hbuf ⊢
    exact ⟨by simp, by simpa using hlost, by simpa using hkept, fun h => absurd h hphase,
      fun _ => by simp [clearHallStrobe], hupdate, hbuf⟩

/-- Settles O46: the record is filled from the state COMM finds, and its frame is read off it. -/
theorem outboundRecord : Obligations.OutboundRecord := by
  intro s t h hphase hfree
  obtain rfl := Host.Outcome.next.inj h
  obtain ⟨hcount, hrec⟩ := comm_sends (P := Config.P) hphase hfree
  obtain ⟨hcrc, hstart⟩ := txFrame_txBody Config.P s _ hrec
  obtain ⟨_, _, hlow, hhigh⟩ := txFrame_bytes (comm Config.P s).txRec
  rw [hrec] at hcrc hstart hlow hhigh ⊢
  exact ⟨hcount, rfl, toNat_ofNat_min (by decide), toNat_ofNat_min (by decide), toNat_ofNat_min (by decide),
    fun hfits => Nat.mod_eq_of_lt (by omega), rfl, rfl, toNat_ofNat_min (by decide), rfl,
    fun hfits => Nat.mod_eq_of_lt (by omega), rfl, rfl, hcrc, txFrame_length _, hstart, hlow, hhigh⟩

end Sys2Proof.Safety
end

section
/-! SUPPORT. The five frame operations: the header every frame applies, the payload pairs of each configuration frame's
group and no others, and the Hall frames' payload (spec/47_sequencer_host.md R345, R347 to R351). -/

namespace Sys2Proof.Machine

/-! ### Payload pairs -/

/-- A group is the pairs that name one of its registers, however its numbers are listed. -/
theorem cfgApplyGroup_eq_filter {lo hi : Nat} {named : Nat → Prop} [DecidablePred named]
    (h : ∀ n, named n ↔ lo ≤ n ∧ n ≤ hi) (ws : List CfgWrite) (c : Csr) :
    cfgApplyGroup lo hi ws c = (ws.filter fun w => decide (named (cfgReg w))).foldl cfgApply c := by
  simp only [cfgApplyGroup, h, Bool.decide_and]

/-- Two register files with equal control registers are equal. -/
theorem Csr.ext_fields {c d : Csr} (mode : c.mode = d.mode) (param : c.param = d.param) (lights : c.lights = d.lights)
    (fault : c.fault = d.fault) (iMaxAdc : c.iMaxAdc = d.iMaxAdc) (pMaxW : c.pMaxW = d.pMaxW)
    (wheelPerimeterMm : c.wheelPerimeterMm = d.wheelPerimeterMm) (maxSpeedKmh : c.maxSpeedKmh = d.maxSpeedKmh)
    (torquePerStepX100 : c.torquePerStepX100 = d.torquePerStepX100) (awprThreshold : c.awprThreshold = d.awprThreshold)
    (optFunction : c.optFunction = d.optFunction) (tempMin : c.tempMin = d.tempMin) (tempMax : c.tempMax = d.tempMax) :
    c = d := by
  cases c
  cases d
  simp_all

section Groups
variable (ws : List CfgWrite) (c : Csr)

/-- The group of FRAME.LIMITS writes c8 and c9 only (R347). -/
theorem cfgApplyGroup_limits : cfgApplyGroup 8 9 ws c =
    { c with iMaxAdc := (cfgApplyGroup 8 9 ws c).iMaxAdc, pMaxW := (cfgApplyGroup 8 9 ws c).pMaxW } := by
  apply Csr.ext_fields <;> simp [cfgApplyGroup_wheelPerimeterMm, cfgApplyGroup_maxSpeedKmh,
    cfgApplyGroup_torquePerStepX100, cfgApplyGroup_awprThreshold, cfgApplyGroup_optFunction, cfgApplyGroup_tempMin,
    cfgApplyGroup_tempMax]

/-- The group of FRAME.WHEEL_ASSIST writes c10 to c13 only (R348). -/
theorem cfgApplyGroup_wheelAssist : cfgApplyGroup 10 13 ws c =
    { c with
      wheelPerimeterMm := (cfgApplyGroup 10 13 ws c).wheelPerimeterMm
      maxSpeedKmh := (cfgApplyGroup 10 13 ws c).maxSpeedKmh
      torquePerStepX100 := (cfgApplyGroup 10 13 ws c).torquePerStepX100
      awprThreshold := (cfgApplyGroup 10 13 ws c).awprThreshold } := by
  apply Csr.ext_fields <;> simp [cfgApplyGroup_iMaxAdc, cfgApplyGroup_pMaxW, cfgApplyGroup_optFunction,
    cfgApplyGroup_tempMin, cfgApplyGroup_tempMax]

/-- The group of FRAME.OPTFN writes c14 to c16 only (R349). -/
theorem cfgApplyGroup_optFn : cfgApplyGroup 14 16 ws c =
    { c with
      optFunction := (cfgApplyGroup 14 16 ws c).optFunction
      tempMin := (cfgApplyGroup 14 16 ws c).tempMin
      tempMax := (cfgApplyGroup 14 16 ws c).tempMax } := by
  apply Csr.ext_fields <;> simp [cfgApplyGroup_iMaxAdc, cfgApplyGroup_pMaxW, cfgApplyGroup_wheelPerimeterMm,
    cfgApplyGroup_maxSpeedKmh, cfgApplyGroup_torquePerStepX100, cfgApplyGroup_awprThreshold]

end Groups

/-! ### The frame operations -/

section Frames
variable {P : Params} {k : MsgId} {f : FrameArgs} {s : State}

/-- Every frame operation applies the header, and no payload pair writes over it (R345). -/
theorem applyFrame_header : (applyFrame P k f s).csr.mode = f.mode ∧ (applyFrame P k f s).csr.param = f.param ∧
    (applyFrame P k f s).csr.lights = f.lights := by
  cases k
  case hallAngles | hallOffsets => exact ⟨rfl, rfl, rfl⟩
  all_goals exact ⟨cfgApplyGroup_mode .., cfgApplyGroup_param .., cfgApplyGroup_lights ..⟩

theorem applyFrame_rxByte (P : Params) (k : MsgId) (f : FrameArgs) (s : State) (n : Nat) :
    (applyFrame P k f s).rxByte n = s.rxByte n :=
  congrArg (Memory.read n) (Safety.applyFrame_writes P k f s).buffer

theorem frameLimits_eq (P : Params) (f : FrameArgs) (s : State) : frameLimits P f s =
    s.setCsr (cfgApplyGroup 8 9 (P.decodePayload .limits f.payload)
      { s.csr with mode := f.mode, param := f.param, lights := f.lights }) := rfl

theorem frameWheelAssist_eq (P : Params) (f : FrameArgs) (s : State) : frameWheelAssist P f s =
    s.setCsr (cfgApplyGroup 10 13 (P.decodePayload .wheelAssist f.payload)
      { s.csr with mode := f.mode, param := f.param, lights := f.lights }) := rfl

theorem frameOptfn_eq (P : Params) (f : FrameArgs) (s : State) : frameOptfn P f s =
    s.setCsr (cfgApplyGroup 14 16 (P.decodePayload .optFn f.payload)
      { s.csr with mode := f.mode, param := f.param, lights := f.lights }) := rfl

/-- The header of a frame is its bytes 2 to 4 (spec/30_encoding.md R100). -/
theorem header_of_acceptFrame (h : acceptFrame P (rxFrame s) = .ok (k, f)) :
    f.mode = s.rxByte 2 ∧ f.param = s.rxByte 3 ∧ f.lights = s.rxByte 4 := by
  obtain ⟨hdecode, _⟩ := acceptFrame_ok_iff.mp h
  have hbytes : rxFrame s = frameBytes k f := frameBytes_of_decodeFrame hdecode
  exact ⟨congrArg (fun v : Vector Byte 13 => v[2]) hbytes.symm, congrArg (fun v : Vector Byte 13 => v[3]) hbytes.symm,
    congrArg (fun v : Vector Byte 13 => v[4]) hbytes.symm⟩

/-- Whatever its message-ID, an accepted frame has its header applied; the send and the loss count leave it (R345). -/
theorem comm_header_of_acceptable (hphase : s.tickMod4 = 3) (hready : s.flags.frameReady = true)
    (hacc : Safety.Acceptable P (rxFrame s)) :
    (comm P s).csr.mode = s.rxByte 2 ∧ (comm P s).csr.param = s.rxByte 3 ∧ (comm P s).csr.lights = s.rxByte 4 := by
  obtain ⟨⟨k, f⟩, hok⟩ := (exists_acceptFrame_iff _ _).mpr hacc
  obtain ⟨hmode, hparam, hlights⟩ := header_of_acceptFrame hok
  rw [comm_of_accepted hphase hready hok, send_eq, ← hmode, ← hparam, ← hlights]
  exact applyFrame_header

end Frames

end Sys2Proof.Machine

namespace Sys2Proof.Safety
open Sys2Proof.Machine

/-- Settles O47: the group c8 to c9, for any layout and for the default one. -/
theorem frameLimitsApplies : Obligations.FrameLimitsApplies := by
  refine ⟨fun f s => ⟨_, rfl, ?_, cfgApplyGroup_limits .., applyFrame_rxByte _ .limits f s⟩, fun P f s hlayout => ?_⟩
  · rw [frameLimits_eq, cfgApplyGroup_eq_filter (named := fun n => n = 8 ∨ n = 9) (by omega)]
  · rw [frameLimits_eq, hlayout]
    rfl

/-- Settles O48: the group c10 to c13, for any layout and for the default one. -/
theorem frameWheelAssistApplies : Obligations.FrameWheelAssistApplies := by
  refine ⟨fun f s => ⟨_, rfl, ?_, cfgApplyGroup_wheelAssist .., applyFrame_rxByte _ .wheelAssist f s⟩,
    fun P f s hlayout => ?_⟩
  · rw [frameWheelAssist_eq,
      cfgApplyGroup_eq_filter (named := fun n => n = 10 ∨ n = 11 ∨ n = 12 ∨ n = 13) (by omega)]
  · rw [frameWheelAssist_eq, hlayout]
    rfl

/-- Settles O49: the group c14 to c16; the torque offset is SENSE's to write. -/
theorem frameOptfnApplies : Obligations.FrameOptfnApplies := by
  refine ⟨fun f s => ⟨_, rfl, ?_, cfgApplyGroup_optFn .., applyFrame_rxByte _ .optFn f s⟩, fun P f s hlayout => ?_,
    fun k f s t h => ?_⟩
  · rw [frameOptfn_eq, cfgApplyGroup_eq_filter (named := fun n => n = 14 ∨ n = 15 ∨ n = 16) (by omega)]
  · rw [frameOptfn_eq, hlayout]
    rfl
  · obtain ⟨_, _, _, _, _, hoffset, _⟩ := (exec_writes h).sensing (by cases k <;> simp [frameInstr])
    exact hoffset

/-- Settles O50: the Hall operations write what they forward, and all five apply the header. -/
theorem frameHallForwards : Obligations.FrameHallForwards := by
  refine ⟨fun f s => ⟨?_, ?_⟩, fun k f s => ?_, fun s hphase hready hacc => ?_⟩
  · exact ⟨_, rfl, rfl, applyFrame_rxByte Config.P .hallAngles f s⟩
  · exact ⟨_, rfl, rfl, applyFrame_rxByte Config.P .hallOffsets f s⟩
  · exact ⟨_, exec_frameInstr k f s, applyFrame_header⟩
  · exact ⟨_, rfl, comm_header_of_acceptable hphase hready hacc⟩

end Sys2Proof.Safety
end

section
/-! SUPPORT. What the host can reach: COMM writes its own registers only, and c0 only by an accepted frame or by the
transport-loss detector (spec/60_exceptions.md R370, spec/47_sequencer_host.md R346). -/

namespace Sys2Proof.Safety
open Sys2Proof.Machine

/-- Without an acceptable frame at the exchange, COMM leaves the control registers or forces Off (R341, R346). -/
theorem comm_csr_of_no_frame {s : State}
    (hframe : s.tickMod4 = 3 → s.flags.frameReady = true → ¬ Acceptable Config.P (rxFrame s)) :
    (comm Config.P s).csr = s.csr ∨ (comm Config.P s).csr = { s.csr with mode := 0 } := by
  obtain ⟨t, h, _, hlost, hkept, _⟩ := commWithoutFrame s hframe
  obtain rfl : comm Config.P s = t := Host.Outcome.next.inj h
  rcases Nat.lt_or_ge (s.cnt.commLossCount + 1) Config.P.commLossTicks with hlt | hle
  · exact .inl (hkept hlt)
  · exact .inr (hlost hle)

/-- The three ways c0 can come out of COMM: kept, forced to Off, or the header byte of an accepted frame. -/
theorem comm_mode_cases (s : State) : (comm Config.P s).csr.mode = s.csr.mode ∨ (comm Config.P s).csr.mode = 0 ∨
    (s.tickMod4 = 3 ∧ s.flags.frameReady = true ∧ Acceptable Config.P (rxFrame s) ∧
      (comm Config.P s).csr.mode = s.rxByte 2 ∧ (comm Config.P s).csr.param = s.rxByte 3 ∧
      (comm Config.P s).csr.lights = s.rxByte 4) := by
  by_cases haccepted : s.tickMod4 = 3 ∧ s.flags.frameReady = true ∧ Acceptable Config.P (rxFrame s)
  · obtain ⟨hphase, hready, hacc⟩ := haccepted
    exact .inr (.inr ⟨hphase, hready, hacc, comm_header_of_acceptable hphase hready hacc⟩)
  · rcases comm_csr_of_no_frame fun hphase hready hacc => haccepted ⟨hphase, hready, hacc⟩ with h | h
    · exact .inl (by rw [h])
    · exact .inr (.inl (by rw [h]))

/-- Settles O51: the fields COMM writes, and the three ways c0 can come out of it. -/
theorem hostAccessIsBounded : Obligations.HostAccessIsBounded := by
  intro s t h
  obtain rfl : comm Config.P s = t := Host.Outcome.next.inj h
  have hmode := comm_mode_cases s
  obtain ⟨c, b, n, r, x, d, v, i, p, e⟩ := comm_exists Config.P s
  rw [e] at hmode ⊢
  simpa using hmode

end Sys2Proof.Safety
end

section
/-! SUPPORT. A motor without both current limits: the ceiling LAW computes is 0, so no stage after LAW requests current,
so ARBITER does not enable a Disabled motor (spec/70_reset_and_hazards.md R403, R405,
spec/45_arbiter_enable_fsm.md R284). -/

namespace Sys2Proof.Machine

theorem p2i_zero (P : Params) (s : State) : p2i P s 0 = 0 := by
  by_cases hvbat : s.sensor.vbatX1000 = 0
  · exact p2i_of_zero hvbat
  · simp [p2i_of_ne hvbat]

/-- Either limit alone holds the ceiling at 0 (R403). -/
theorem currentCeiling_of_no_limit {s : State} (P : Params) (h : s.csr.iMaxAdc = 0 ∨ s.csr.pMaxW = 0) :
    currentCeiling P s = 0 := by
  obtain ⟨hadc, _, hpower⟩ := currentCeiling_bounds P s
  rcases h with h | h
  · rw [h] at hadc
    exact Nat.le_zero.mp hadc
  · have hzero : s.csr.pMaxW.toNat * 100 = 0 := by rw [h]; rfl
    rw [hzero, p2i_zero] at hpower
    exact Nat.le_zero.mp hpower

/-- The start needs a request (R284). -/
theorem arbiter_stays_disabled {P : Params} {s : State} (hen : s.flags.motorEnabled = false) (hreq : s.a.iTarget = 0) :
    (arbiter P s).flags.motorEnabled = false := by
  have nostop : ¬ (s.flags.motorEnabled = true ∧ stopCond s = true) := by simp [hen]
  have nostart : ¬ (s.flags.motorEnabled = false ∧ startCond s = true) := by simp [startCond_iff, hreq]
  rw [arbiter_hold nostop nostart]
  exact hen

/-- No agent enables the motor: the reset state is Disabled, and the others leave the flag. -/
theorem agentStep_stays_disabled {P : Params} {s : State} (e : Event) (hen : s.flags.motorEnabled = false) :
    (agentStep P e s).flags.motorEnabled = false := by
  rcases agentStep_exists P e s with h | ⟨m, b, x, n, _, h⟩ <;> rw [h]
  · rfl
  · exact hen

theorem stageInstr_injective {b c : BitVec 3} (h : stageInstr b = stageInstr c) : b = c := by
  revert b c
  decide

end Sys2Proof.Machine

namespace Sys2Proof.Safety
open Sys2Proof.Machine

variable {P : Params} {s t : State}

/-- From LAW to the end of the tick, the ceiling and the requested current are 0. -/
def NothingRequested (s : State) : Prop := LawHasRun s → s.iMax = 0 ∧ s.a.iTarget = 0

theorem NothingRequested.of_stage (h : t.stage.toNat ≤ 3) : NothingRequested t :=
  fun hrun => absurd hrun (Nat.not_le.mpr (Nat.lt_succ_of_le h))

/-- A request below a ceiling of 0 is 0. -/
theorem NothingRequested.of_request (hmax : t.iMax = 0) (hreq : t.a.iTarget ≤ t.iMax) : NothingRequested t :=
  fun _ => ⟨hmax, Nat.le_zero.mp (hmax ▸ hreq)⟩

theorem law_nothingRequested (hlimit : s.csr.iMaxAdc = 0 ∨ s.csr.pMaxW = 0) : NothingRequested (law P s) := by
  obtain ⟨_, hceiling, _⟩ := law_sets_ceiling P s
  exact .of_request (hceiling.trans (currentCeiling_of_no_limit P hlimit)) (law_request P s)

/-- The stages after LAW keep the ceiling and leave the request below it; the others end where nothing is claimed. -/
theorem step_nothingRequested (hstep : step s = .next t) (hlimit : s.csr.iMaxAdc = 0 ∨ s.csr.pMaxW = 0)
    (h : NothingRequested s) : NothingRequested t := by
  have request_le (hrun : LawHasRun s) : s.a.iTarget ≤ s.iMax := by
    obtain ⟨hmax, hreq⟩ := h hrun
    rw [hmax, hreq]
  rcases step_stage_cases hstep with ⟨e, he, rfl⟩ | ⟨hs, _, rfl⟩ | ⟨_, rfl⟩ | ⟨_, rfl⟩ | ⟨_, rfl⟩ | ⟨hs, rfl⟩ |
    ⟨hs, rfl⟩ | ⟨hs, rfl⟩ | ⟨_, rfl⟩
  case inl =>
    obtain ⟨hs, _⟩ := dueAgent_some.mp he
    exact .of_stage (by simp [agentStep_stage Config.P e hs])
  · rcases idle_exists s with ⟨inp, es, e⟩ | e <;> rw [e]
    · exact .of_stage (by simp)
    · exact h
  · obtain ⟨hstage, _⟩ := sense_keeps_commit Config.P s
    exact .of_stage (by simp [hstage])
  · obtain ⟨hstage, _⟩ := health_keeps_commit s
    exact .of_stage (by simp [hstage])
  · exact law_nothingRequested hlimit
  · have hrun : LawHasRun s := by simp [LawHasRun, hs]
    obtain ⟨hmax, _⟩ := overlay_keeps_ceiling Config.P s
    exact .of_request (hmax.trans (h hrun).left) (overlay_request (request_le hrun))
  · have hrun : LawHasRun s := by simp [LawHasRun, hs]
    obtain ⟨hmax, _⟩ := speedlim_keeps_ceiling s
    exact .of_request (hmax.trans (h hrun).left) (speedlim_request (request_le hrun))
  · have hrun : LawHasRun s := by simp [LawHasRun, hs]
    obtain ⟨hreq, hmax, _⟩ := arbiter_request_and_ceiling Config.P s
    exact .of_request (hmax.trans (h hrun).left) (by rw [hreq, hmax]; exact request_le hrun)
  · obtain ⟨hstage, _⟩ := comm_keeps_commit Config.P s
    exact .of_stage (by simp [hstage])

/-- Only ARBITER writes the enable flag, and it finds no request. -/
theorem step_stays_disabled (hstep : step s = .next t) (hen : s.flags.motorEnabled = false)
    (h : NothingRequested s) : t.flags.motorEnabled = false := by
  rcases step_cases hstep with ⟨e, _, rfl⟩ | ⟨_, hexec⟩
  · exact agentStep_stays_disabled e hen
  · by_cases harb : fetch s = .arbiter
    · have hs : s.stage = 6 := stageInstr_injective harb
      obtain ⟨_, hreq⟩ := h (by simp [LawHasRun, hs])
      rw [harb] at hexec
      obtain rfl := Host.Outcome.next.inj hexec
      exact arbiter_stays_disabled hen hreq
    · obtain ⟨_, hkept, _⟩ := (exec_writes hexec).drive harb
      exact hkept.trans hen

/-- Settles O60: the flag and the request, each by what the step can be. -/
theorem noLimitsNoMotor : Obligations.NoLimitsNoMotor := fun _ _ hstep hlimit hen h =>
  ⟨step_stays_disabled hstep hen h, step_nothingRequested hstep hlimit h⟩

end Sys2Proof.Safety
end

section
/-! SUPPORT. The reset state, field by field and at the ports, and the event that gives it
(spec/70_reset_and_hazards.md R400 to R402). -/

namespace Sys2Proof.Safety
open Sys2Proof.Machine

/-- Settles O15: between ticks the event is an agent's, whose effect is the reset. -/
theorem rstStep : Obligations.RstStep := fun _ _ h0 henv => step_of_agentEvent h0 henv (by simp)

/-- After reset c4 shows the pending Cruise initialisation and nothing else: a loss count of 0 is below its limit,
which no legal configuration sets to 0 (spec/10_state.md R36, spec/00_scope.md R10). -/
theorem statusWord_reset : statusWord Config.P State.reset = 0x10 := by
  have hloss := Config.P_legal.commLossTicks
  have notLost : decide (Config.P.commLossTicks ≤ State.reset.cnt.commLossCount) = false :=
    decide_eq_false (Nat.not_le.mpr hloss.left)
  rw [statusWord, notLost]
  rfl

/-- Settles O16: c4 is computed from the flags and the loss limit; every other field is the value written. -/
theorem resetValues : Obligations.ResetValues := by
  have hstatus : csrRead Config.P State.reset 4 = some 0x10 := congrArg (fun b : Byte => some (b.setWidth 16))
    statusWord_reset
  exact ⟨rfl, rfl, rfl, rfl, rfl, rfl, rfl, rfl, rfl, rfl, rfl, rfl, rfl, rfl, rfl, hstatus, rfl, rfl, rfl, rfl, rfl,
    rfl, rfl, rfl, fun _ _ => rfl, rfl, rfl, rfl⟩

/-- Settles O17: the ports show the reset values of the registers behind them. -/
theorem resetPorts : Obligations.ResetPorts := ⟨rfl, rfl, rfl, rfl, rfl, rfl, rfl, rfl, rfl, rfl, rfl⟩

end Sys2Proof.Safety
end

section
/-! SUPPORT. Words of the encoding tables (spec/30_encoding.md). -/

namespace Sys2Proof.Safety

/-- Settles O5: the words are closed, so decoding each is an evaluation. -/
theorem decodeSampleWords : Obligations.DecodeSampleWords := ⟨rfl, rfl, rfl, rfl, rfl, rfl, rfl, rfl⟩

end Sys2Proof.Safety
end
